-- ==== Sys2Proof/Word.lean ====
section
/-! DEFINITION. The word types of the Ishjal 612: bytes, halfwords and the 32-bit words of its channels and items. -/

namespace Sys2Proof

/-- A byte of the lens link, of a mailbox or of an SPI transaction. -/
abbrev Byte := BitVec 8

/-- A 16-bit quantity: a count, an epoch, a tag, a frame number, a focal value. -/
abbrev Half := BitVec 16

/-- A 32-bit word: a timebase value, an item, a word of a request or mesh channel. -/
abbrev Word := BitVec 32

end Sys2Proof
end

