-- ==== Sys2Proof/Config.lean ====
section
/-! DEFINITION. The fixed capacities of the part (00_scope.md, "The part at a glance") and the two values the spec leaves open. -/

namespace Sys2Proof.Config

/-- Events the event queue holds (R184). -/
def queueCapacity : Nat := 32
/-- Entries the timeline holds (R69). -/
def timelineCapacity : Nat := 128
/-- Strobe records a port's table holds (R99). -/
def tableCapacity : Nat := 8
/-- Request slots of a port (R127). -/
def slotCapacity : Nat := 4
/-- Places of a port's reply queue (R125). -/
def replyCapacity : Nat := 8
/-- Words up to which the engine and the reply queue may fill a FIFO, keeping the trailer's reserve (R138, R152). -/
def fifoLimit : Nat := 1021
/-- Words a port's FIFO holds (R138). -/
def fifoCapacity : Nat := 1024
/-- Bytes of a mailbox (R169). -/
def mailboxSize : Nat := 256
/-- The inter-byte limit of the lens link in microseconds (R53). -/
def interByteLimit : Nat := 20
/-- The latest timebase value at which INIT_BUSY clears (R167). -/
def initBusyBound : Nat := 250

/-- FREE VALUE (log 5): the timebase value at which the profile store has cleared its slots.
R167 bounds it by 250 and fixes nothing else. -/
opaque initClearTime : Nat → Nat

/-- FREE VALUE (log 12): what the checks of PROFILE_OPEN and PROFILE_NODES see in a count byte that the
command's length leaves out, by the free-value counter and the byte's offset. -/
opaque absentByte : Nat → Nat → Byte

end Sys2Proof.Config
end

