-- ==== Sys2Proof/Syntax.lean ====
section
/-! DEFINITION. The commands of the Ishjal 612: one constructor for each row of spec/opcode_table.json. -/

namespace Sys2Proof

/-- The two mesh ports (R120): MP0 serves the stills pipe, MP1 the live-view pipe. -/
inductive Port where
  | mp0
  | mp1
  deriving DecidableEq, Repr

/-- How far a read transaction to an item whose read has an effect goes (R163). -/
inductive ReadPhase where
  /-- The whole transaction, with nothing taken between its address byte and its fourth data byte. -/
  | whole
  /-- The address byte: the value is taken. -/
  | address
  /-- The fourth data byte has been clocked out: the effect is applied. -/
  | finish
  /-- The transaction ends before its fourth data byte: no effect. -/
  | cut
  deriving DecidableEq, Repr

/-- The commands and events, in the order of the table. -/
inductive Instr where
  | powerOn
  | pinReset
  | initBusyClear
  | linkByte (b : Byte)
  /-- The clock has rested after `bits` bits of a byte, 1 to 7 (R50). -/
  | linkRunt (bits : Nat)
  | interByteTimeout
  | linkFreshnessExpiry
  | postedFreshnessExpiry
  | strobe (p : Port)
  | lossTimerExpiry (p : Port)
  /-- The eighth word of a request record. -/
  | requestRecord (p : Port) (w : Word)
  | waitTimerExpiry (p : Port) (slot : Fin 4)
  | wordTaken (p : Port)
  | refuseRecordMove (p : Port)
  | grant
  | unitPlace
  | stallExpiry
  | eventPop (phase : ReadPhase)
  | summary (phase : ReadPhase)
  | mailboxFlags (value : Word)
  | mailboxSelect (value : Word)
  | mailboxDataWrite (b : Byte)
  | mailboxDataRead
  /-- A completed write to an item address that takes no write (R163). -/
  | itemWriteIgnored (address : BitVec 7) (value : Word)
  | setConfig
  | getConfig
  | getStatusDetail
  | resetCore
  | runControl
  | portConfig
  | portReset
  | postAttach
  | postPosition
  | postDetach
  | setSource
  | readTimeline
  | profileOpen
  | profileNodes
  | profileCommit
  | profileDiscard
  | profileDelete
  | profileRead
  | listProfiles
  | bindOverride
  /-- A word taken before a record's eighth: the first takes a place of the reply queue (R122). -/
  | requestWordTaken (p : Port) (w : Word)
  | badCommand
  deriving DecidableEq, Repr

end Sys2Proof
end

