-- ==== Sys2Proof/WellFormed.lean ====
section
/-! DEFINITION. Which terms of Instr name an event of the part. -/

namespace Sys2Proof

/-- The addresses of the items that take a write: MAILBOX_FLAGS, MAILBOX_SELECT, MAILBOX_DATA (R164, R195). -/
def writableAddress (a : BitVec 7) : Bool :=
  a == 0x08#7 || a == 0x09#7 || a == 0x0A#7

/-- A runt has 1 to 7 bits (R50). An ignored write goes to an address that takes no write (R163).
Every other term names an event. -/
def Instr.wellFormed : Instr → Bool
  | .linkRunt bits => 1 ≤ bits && bits ≤ 7
  | .itemWriteIgnored a _ => !writableAddress a
  | _ => true

end Sys2Proof
end

