-- ==== Sys2Proof/Decode.lean ====
section
/-! DEFINITION. The commands a word spells by the bits of spec/opcode_table.json: no row of the table gives bits. -/

namespace Sys2Proof

/-- No row of the table has bits ("fields" is empty in all 46), so no word spells a command.
The bits that do cross the part's ports (link bytes, request words, SPI items, mailbox commands) are
decoded by the meanings of the commands that carry them. -/
def decodeTableWord (_nbits _w : Nat) : Option Instr :=
  none

end Sys2Proof
end

