-- ==== Sys2Proof/Machine/State.lean ====
section
/-! DEFINITION. The state of the part as plain data, block by block, the reasons a step can stop, and the state after reset. -/

namespace Sys2Proof.Machine

/-! ### Values with names -/

/-- How far a POWER_ON or PIN_RESET of the queue goes (R168, log 6). -/
inductive ResetPhase where
  /-- The whole reset, with nothing taken between its begin and its end. -/
  | whole
  /-- The reset begins: power is applied, or RSTn is asserted. The part is held in reset. -/
  | start
  /-- The reset ends: the supplies are good and RSTn is released. -/
  | finish
  deriving DecidableEq, Repr

/-- The kind of the last reset of the whole part (R168). -/
inductive ResetCause where
  | powerOn
  | pin
  | core
  deriving DecidableEq, Repr

/-- The reset of the whole part in which the part is held, if any (R168). -/
inductive Hold where
  | released
  | powerOn
  | pin
  deriving DecidableEq, Repr

/-- The two feeds of lens reports (R60, R86). -/
inductive Feed where
  | link
  | posted
  deriving DecidableEq, Repr

/-- The two mailboxes (R169). -/
inductive Mailbox where
  | command
  | response
  deriving DecidableEq, Repr

/-- The engine's run state (R142). -/
inductive RunState where
  | run
  | hold
  | step
  deriving DecidableEq, Repr

/-- A port's trigger mode (R134). -/
inductive TriggerMode where
  | command
  | strobe
  | strobeOnce
  deriving DecidableEq, Repr

/-- What a port does with a strobe request when no slot is free (R135). -/
inductive FullPolicy where
  | dropNew
  | replaceOldest
  deriving DecidableEq, Repr

/-- A mesh's fill mode (R15). -/
inductive FillMode where
  | profile
  | unity
  | fixed
  deriving DecidableEq, Repr

/-- The arbiter priority (R146). -/
inductive ArbiterPriority where
  | none
  | mp0
  | mp1
  deriving DecidableEq, Repr

/-- Presence of the lens on record (R66). -/
inductive Presence where
  | attached
  | detached
  deriving DecidableEq, Repr

/-- The tracker's state (R68). -/
inductive TrackerState where
  | absent
  | live
  | silent
  deriving DecidableEq, Repr

/-- The states of an occupied request slot (R128). -/
inductive SlotState where
  | pendingFrame
  | pendingCover
  | ready
  | inEngine
  deriving DecidableEq, Repr

/-- The states of the lens link receiver (R51). -/
inductive RxState where
  | hunt
  | idle
  | inFrame
  deriving DecidableEq, Repr

/-- The codes of a refuse record (R126). -/
inductive RefusalCode where
  | portDisabled
  | mode
  | badWindow
  | badGrid
  | queueFull
  | frameUnknown
  | frameTimeout
  | superseded
  | genMismatch
  | noProfile
  deriving DecidableEq, Repr

/-- The event kinds (R182). -/
inductive EventKind where
  | resetDone
  | lensAttached
  | lensDetached
  | converterChanged
  | noProfile
  | linkSilent
  | linkRestored
  | sourceChanged
  | linkErrors
  | linkGap
  | profileApplied
  | strobeLocked
  | strobeLost
  | strobeDropped
  | meshAbandoned
  | responseReady
  deriving DecidableEq, Repr

/-- The items whose read has an effect (R164). -/
inductive EffectItem where
  | eventPop
  | summary
  deriving DecidableEq, Repr

/-- Which case of R45 chose a mesh's profile. -/
inductive BindCase where
  | overridden
  | exact
  | fallbackBase
  | noProfile
  deriving DecidableEq, Repr

/-! ### A pair of things, one for each mesh port -/

/-- One of a thing for each mesh port. -/
structure PerPort (α : Type) where
  mp0 : α
  mp1 : α
  deriving DecidableEq, Repr

/-- The one of port `p`. -/
def PerPort.get {α : Type} (x : PerPort α) : Port → α
  | .mp0 => x.mp0
  | .mp1 => x.mp1

/-- The pair with port `p`'s one replaced. -/
def PerPort.set {α : Type} (x : PerPort α) (p : Port) (a : α) : PerPort α :=
  match p with
  | .mp0 => ⟨a, x.mp1⟩
  | .mp1 => ⟨x.mp0, a⟩

/-- Both replaced by a function of the old ones. -/
def PerPort.map {α : Type} (f : α → α) (x : PerPort α) : PerPort α :=
  ⟨f x.mp0, f x.mp1⟩

/-! ### Control port and configuration (chapter 9) -/

/-- The bytes of a mailbox: addresses strictly rising, no byte 0 listed, an unlisted byte reads 0 (R180). -/
abbrev Memory := List Host.Cell

/-- A read transaction between its address byte and its fourth data byte (R163).
`live` says that the event whose kind and parameter were taken is still the queue's oldest (R185). -/
structure ReadLatch where
  item : EffectItem
  value : Word
  live : Bool
  deriving DecidableEq, Repr

/-- The control port (R180), but for the configuration set. -/
structure ControlPort where
  /-- The part is held in a POWER_ON or PIN reset (R168). -/
  hold : Hold
  initBusy : Bool
  resetCause : ResetCause
  cmdBox : Memory
  rspBox : Memory
  /-- CMD: the part owns the command mailbox (R170). -/
  cmdFlag : Bool
  /-- RSP: the part owns the response mailbox (R170). -/
  rspFlag : Bool
  /-- The written extent of the command mailbox (R172). -/
  extent : Nat
  select : Mailbox
  offset : Nat
  latch : Option ReadLatch
  /-- The model's own record of the data bytes that the last read drove on MISO, in the order in which they
  leave (log 9). -/
  miso : List Byte
  deriving DecidableEq, Repr

/-- The configuration set (R175), the ports' own configurations apart. -/
structure ConfigSet where
  width : Half
  height : Half
  linkSilence : Byte
  postedSilence : Half
  autoFailover : Bool
  autoReturn : Bool
  holdLimit : Half
  priority : ArbiterPriority
  consecutiveLimit : Nat
  /-- The mask flag of the kind with code n is bit n (R195). -/
  mask : BitVec 17
  deferLow : Bool
  deriving DecidableEq, Repr

/-! ### Event unit (chapter 10) -/

/-- An event (R182). -/
structure Event where
  kind : EventKind
  param : Half
  time : Word
  deriving DecidableEq, Repr

/-- The event unit (R190). NOTIFYn is a view of it (R189). -/
structure EventUnit where
  /-- Oldest first (R184). -/
  queue : List Event
  /-- The masked-occurrence bit of the kind with code n is bit n (R195). -/
  summary : BitVec 17
  overflow : Bool
  accessViolation : Bool
  eventTime : Word
  deriving DecidableEq, Repr

/-! ### Lens link receiver (chapter 3) -/

/-- The lens link receiver (R64). A timer is its expiry time, or none where it is stopped (R95). -/
structure LinkReceiver where
  rx : RxState
  /-- The bytes of the partial frame after SYNC, in arrival order (R51). -/
  frame : List Byte
  /-- Bits of the byte being assembled (R50), 0 between whole bytes (log 10). -/
  bitCount : Nat
  byteTimer : Option Word
  expected : Option (BitVec 4)
  checkErrors : Half
  gaps : Half
  malformed : Half
  errorRun : Nat
  good : Nat
  fresh : Bool
  freshTimer : Option Word
  deriving DecidableEq, Repr

/-! ### Lens state tracker (chapter 4) -/

/-- The lens record (R66). -/
structure LensRecord where
  lensId : Word
  firmware : Half
  focalMin : Half
  focalMax : Half
  converter : BitVec 2
  presence : Presence
  epoch : Half
  deriving DecidableEq, Repr

/-- A timeline entry (R69). -/
structure Entry where
  tFirst : Word
  tLast : Word
  focal : Half
  focus : BitVec 12
  converter : BitVec 2
  source : Feed
  deriving DecidableEq, Repr

/-- The tracker (R92). Its state ABSENT, LIVE or SILENT is a view (R68). -/
structure Tracker where
  record : Option LensRecord
  epoch : Half
  /-- Oldest first (R69). -/
  timeline : List Entry
  source : Feed
  postedFresh : Bool
  postedTimer : Option Word
  late : Half
  clamps : Half
  ignored : Half
  override : Option (Fin 16)
  deriving DecidableEq, Repr

/-! ### Timebase and strobe unit (chapter 5) -/

/-- A strobe record (R97). -/
structure StrobeRecord where
  frame : Half
  time : Word
  offPeriod : Bool
  deriving DecidableEq, Repr

/-- The run of an unlocked lock machine (R101): first period, count, sum. -/
structure Run where
  first : Nat
  count : Nat
  sum : Nat
  deriving DecidableEq, Repr

/-- The lock machine of a port (R101, R102). -/
inductive Lock where
  | unlocked (run : Run)
  /-- The locked period L and the expiry of the loss timer. -/
  | locked (period : Nat) (lossTimer : Word)
  deriving DecidableEq, Repr

/-- The strobe unit of one port (R104). -/
structure StrobeUnit where
  counter : Half
  /-- Oldest first (R99). -/
  table : List StrobeRecord
  previous : Option Word
  lock : Lock
  deriving DecidableEq, Repr

/-! ### Mesh ports (chapter 7) -/

/-- The fields of a request record or template (R123). -/
structure RequestFields where
  tag : Half
  frame : Half
  expectedGen : Byte
  stepCode : BitVec 2
  fillMode : FillMode
  /-- LATEST, where set; ABS_FRAME otherwise. -/
  latest : Bool
  requireProfile : Bool
  strictGen : Bool
  waitCover : Bool
  /-- RGB, where set; G_ONLY otherwise. -/
  rgb : Bool
  x0 : Half
  y0 : Half
  width : Half
  height : Half
  lineTime : Half
  exposure : Word
  fixedFill : Word
  deriving DecidableEq, Repr

/-- The copy of a strobe record a request keeps (R100). -/
structure StrobeCopy where
  frame : Half
  time : Word
  deriving DecidableEq, Repr

/-- A request in its slot (R127). -/
structure Request where
  slot : Fin 4
  fields : RequestFields
  fillClamped : Bool
  nc : Nat
  nr : Nat
  strobe : Option StrobeCopy
  coverTime : Option Word
  coverIncomplete : Bool
  waitTimer : Option Word
  state : SlotState
  deriving DecidableEq, Repr

/-- A refuse record (R126). -/
structure RefuseRecord where
  code : RefusalCode
  generation : Byte
  tag : Half
  frame : Half
  deriving DecidableEq, Repr

/-- A port's configuration (R120). -/
structure PortConfig where
  enabled : Bool
  mode : TriggerMode
  template : RequestFields
  policy : FullPolicy
  waitLimit : Byte
  stallLimit : Byte
  deriving DecidableEq, Repr

/-- A mesh port. -/
structure MeshPort where
  config : PortConfig
  /-- The words of the partial request record (R122). -/
  gathered : List Word
  /-- The occupied slots, oldest first (R127). -/
  slots : List Request
  /-- The refuse records of the reply queue, oldest first (R125). -/
  replies : List RefuseRecord
  /-- The output FIFO, oldest first (R138). -/
  fifo : List Word
  dropped : Half
  deriving DecidableEq, Repr

/-! ### Profile store (chapters 1 and 2) -/

/-- The eight Q3.20 coefficients of a profile grid node (R6). -/
structure CoeffSet where
  k1 : BitVec 24
  k2 : BitVec 24
  k3 : BitVec 24
  aR0 : BitVec 24
  aR1 : BitVec 24
  aB0 : BitVec 24
  aB1 : BitVec 24
  fill : BitVec 24
  deriving DecidableEq, Repr

/-- A profile's header and node lists (R22). -/
structure ProfileHeader where
  lensId : Word
  converter : BitVec 2
  isProtected : Bool
  rn16 : BitVec 17
  ox : Half
  oy : Half
  focals : List Half
  focuses : List (BitVec 12)
  deriving DecidableEq, Repr

/-- A profile: header and node table, focal-major (R7). -/
structure Profile where
  header : ProfileHeader
  table : List CoeffSet
  deriving DecidableEq, Repr

/-- A profile slot: its generation, and its profile where it is occupied (R22). -/
structure Slot where
  generation : Byte
  profile : Option Profile
  deriving DecidableEq, Repr

/-- The content of the staging slot; an unwritten set is `none` (R26, R30). -/
structure Staged where
  header : ProfileHeader
  table : List (Option CoeffSet)
  deriving DecidableEq, Repr

/-- The staging slot (R26). -/
inductive Staging where
  | closed
  | opened (p : Staged)
  | committing (p : Staged)
  deriving DecidableEq, Repr

/-- A pending store operation (R27). -/
inductive StoreOp where
  | commit (slot : Fin 16)
  | delete (slot : Fin 16)
  deriving DecidableEq, Repr

/-- The profile store (R48, R49). -/
structure ProfileStore where
  slots : Vector Slot 16
  staging : Staging
  pendingOp : Option StoreOp
  boundSlot : Option (Fin 16)
  deriving DecidableEq, Repr

/-! ### Mesh engine (chapter 8) -/

/-- The outcome of a bind (R46): the bound slot with its generation and key, or no slot, with the lens
ID and centre-row converter code the header then carries. -/
structure Binding where
  choice : BindCase
  slot : Option (Fin 16)
  generation : Byte
  lensId : Word
  converter : BitVec 2
  deriving DecidableEq, Repr

/-- A unit formed and not yet placed (R152): its words, and for a row what it adds to the counts. -/
structure MeshUnit where
  words : List Word
  isRow : Bool
  saturated : Nat
  flagged : Bool
  deriving DecidableEq, Repr

/-- The working state of the mesh in computation (chapter 8, opening table). -/
structure Mesh where
  port : Port
  request : Request
  stallLimit : Byte
  epoch : Half
  binding : Binding
  /-- Cx and Cy; a mesh that binds no profile forms none (R2). -/
  centre : Option (Int × Int)
  cursor : Nat
  epochChanged : Bool
  nodes : Nat
  saturated : Nat
  flagged : Nat
  unit : MeshUnit
  stallTimer : Option Word
  deriving DecidableEq, Repr

/-- The mesh engine (R160). -/
structure Engine where
  runState : RunState
  lastGranted : Port
  consecutive : Nat
  mesh : Option Mesh
  deriving DecidableEq, Repr

/-! ### The whole part -/

/-- Everything the spec gives the part, the queue of waiting commands and the free-value counter. -/
structure State where
  /-- The timebase (R93). -/
  time : Word
  cp : ControlPort
  config : ConfigSet
  eu : EventUnit
  llr : LinkReceiver
  lst : Tracker
  tsu : PerPort StrobeUnit
  ports : PerPort MeshPort
  store : ProfileStore
  me : Engine
  /-- The model's own counter of free values drawn (log 21). -/
  freeIndex : Nat
  /-- The model's own: how far each POWER_ON and PIN_RESET to come goes, in their order, each the whole reset where
  none is listed (log 6). -/
  resetPhases : List ResetPhase
  /-- The model's own queue of the commands that are waiting, first in, first out. -/
  pending : List Instr
  deriving DecidableEq, Repr

/-- The spec gives the part no way to stop: an error is a response, a refuse record, a flag, a counter
or an event, all of them state. So no fault exists. -/
inductive Fault where
  deriving DecidableEq, Repr

/-- Why a command may have no outcome. -/
inductive Refusal where
  /-- Raised by exec for a row of the table that has no meaning yet. Safe: the run stops. -/
  | notModelled (mnemonic : String)
  /-- Raised by a meaning for a term that names no event of the part (Instr.wellFormed fails, log 22).
  Safe: the run stops. -/
  | illFormed
  deriving DecidableEq, Repr

/-! ### The state after reset -/

/-- The configuration set after every POWER_ON, PIN and CORE reset (R175). -/
def ConfigSet.reset : ConfigSet where
  width := 0
  height := 0
  linkSilence := 20
  postedSilence := 100
  autoFailover := false
  autoReturn := false
  holdLimit := 5000
  priority := .none
  consecutiveLimit := 4
  mask := 0
  deferLow := false

/-- The event unit at a POWER_ON, PIN or CORE reset, before RESET_DONE is posted (R190). -/
def EventUnit.reset : EventUnit where
  queue := []
  summary := 0
  overflow := false
  accessViolation := false
  eventTime := 0

/-- The receiver after every POWER_ON, PIN and CORE reset (R64). -/
def LinkReceiver.reset : LinkReceiver where
  rx := .hunt
  frame := []
  bitCount := 0
  byteTimer := none
  expected := none
  checkErrors := 0
  gaps := 0
  malformed := 0
  errorRun := 0
  good := 0
  fresh := false
  freshTimer := none

/-- The tracker after every POWER_ON, PIN and CORE reset (R92). -/
def Tracker.reset : Tracker where
  record := none
  epoch := 0
  timeline := []
  source := .link
  postedFresh := false
  postedTimer := none
  late := 0
  clamps := 0
  ignored := 0
  override := none

/-- The empty run: count 0 and sum 0 (R101). Its first period 0 is the model's choice (log 39). -/
def Run.empty : Run := ⟨0, 0, 0⟩

/-- A port's strobe unit after every reset of the port (R104). -/
def StrobeUnit.reset : StrobeUnit where
  counter := 0
  table := []
  previous := none
  lock := .unlocked Run.empty

/-- A template of all zeros (R120). -/
def RequestFields.zero : RequestFields where
  tag := 0
  frame := 0
  expectedGen := 0
  stepCode := 0
  fillMode := .profile
  latest := false
  requireProfile := false
  strictGen := false
  waitCover := false
  rgb := false
  x0 := 0
  y0 := 0
  width := 0
  height := 0
  lineTime := 0
  exposure := 0
  fixedFill := 0

/-- A port's configuration after every POWER_ON, PIN and CORE reset (R120). -/
def PortConfig.reset : PortConfig where
  enabled := false
  mode := .command
  template := RequestFields.zero
  policy := .dropNew
  waitLimit := 40
  stallLimit := 10

/-- A port after a reset of the whole part, `resync` being the words of the RESYNC record (R141). -/
def MeshPort.reset (resync : List Word) : MeshPort where
  config := PortConfig.reset
  gathered := []
  slots := []
  replies := []
  fifo := resync
  dropped := 0

/-- The store after it has cleared itself (R48). -/
def ProfileStore.cleared : ProfileStore where
  slots := Vector.replicate 16 ⟨0, none⟩
  staging := .closed
  pendingOp := none
  boundSlot := none

/-- The engine after every POWER_ON, PIN and CORE reset (R160). -/
def Engine.reset : Engine where
  runState := .run
  lastGranted := .mp1
  consecutive := 0
  mesh := none

/-- The control port at the end of a POWER_ON or PIN reset (R180, R167). A read whose address byte came before the
reset is dropped: for SUMMARY that is the model's choice (log 40). -/
def ControlPort.reset (cause : ResetCause) : ControlPort where
  hold := .released
  initBusy := true
  resetCause := cause
  cmdBox := []
  rspBox := []
  cmdFlag := false
  rspFlag := true
  extent := 0
  select := .command
  offset := 0
  latch := none
  miso := []

/-- The part at the end of a POWER_ON or PIN reset (R168), with the words of the RESYNC that opens
each port's stream (R140). -/
def State.afterReset (cause : ResetCause) (resync : List Word) : State where
  time := 0
  cp := ControlPort.reset cause
  config := ConfigSet.reset
  eu := EventUnit.reset
  llr := LinkReceiver.reset
  lst := Tracker.reset
  tsu := ⟨StrobeUnit.reset, StrobeUnit.reset⟩
  ports := ⟨MeshPort.reset resync, MeshPort.reset resync⟩
  store := ProfileStore.cleared
  me := Engine.reset
  freeIndex := 0
  resetPhases := []
  pending := []

/-- The part right after power has come up: a POWER_ON reset has ended, INIT_BUSY is set and each FIFO
holds a RESYNC with cause POWER_ON and time 0 (R141, R194). -/
def State.reset : State :=
  State.afterReset .powerOn [0x50000000#32, 0#32]

end Sys2Proof.Machine
end

