-- ==== Sys2Proof/Machine/Ops.lean ====
section
/-! DEFINITION. The operations every block shares: rounding and clamping, bytes and words, times and timers, saturating counters, the mailboxes' bytes, views of the state, posting an event. -/

namespace Sys2Proof.Machine

/-! ### Numbers -/

/-- "v rounded at n": floor(v / 2^n + 1/2) (R1). `/` on Int with a positive divisor is the floor. -/
def roundAt (n : Nat) (v : Int) : Int :=
  (2 * v + 2 ^ n) / 2 ^ (n + 1)

/-- `v` brought into `lo..hi`. -/
def clampInt (lo hi v : Int) : Int :=
  if v < lo then lo else if hi < v then hi else v

/-- A counter of 16 bits that rises by `n` and holds at 65,535 (R54, R78, R135). -/
def satAdd (c : Half) (n : Nat) : Half :=
  BitVec.ofNat 16 (min 65535 (c.toNat + n))

/-- A flag as one byte (R196). -/
def boolByte (b : Bool) : Byte :=
  if b then 1 else 0

/-! ### Bytes, most significant first (R192) -/

def bytes16 (x : Half) : List Byte :=
  [x.extractLsb' 8 8, x.extractLsb' 0 8]

def bytes24 (x : BitVec 24) : List Byte :=
  [x.extractLsb' 16 8, x.extractLsb' 8 8, x.extractLsb' 0 8]

def bytes32 (x : Word) : List Byte :=
  [x.extractLsb' 24 8, x.extractLsb' 16 8, x.extractLsb' 8 8, x.extractLsb' 0 8]

/-- The number that bytes spell, the first most significant. -/
def natOfBytes (bs : List Byte) : Nat :=
  bs.foldl (fun n b => n * 256 + b.toNat) 0

def half (bs : List Byte) : Half := BitVec.ofNat 16 (natOfBytes bs)

def word (bs : List Byte) : Word := BitVec.ofNat 32 (natOfBytes bs)

/-! ### Times (R94, R95) -/

/-- (b − a) modulo 2^32. -/
def elapsed (a b : Word) : Nat := (b - a).toNat

/-- a is earlier than b (R94). -/
def earlier (a b : Word) : Bool := 1 ≤ elapsed a b && elapsed a b < 2 ^ 31

/-- a is later than b: b is earlier than a (R94). -/
def later (a b : Word) : Bool := 2 ^ 31 < elapsed a b

/-- a is not later than b: the same, earlier or unordered (R94). -/
def notLater (a b : Word) : Bool := !later a b

/-- a is not earlier than b (R94). -/
def notEarlier (a b : Word) : Bool := !earlier a b

/-- The difference b − a as a signed number (R94). -/
def timeDiff (a b : Word) : Int :=
  if elapsed a b < 2 ^ 31 then (elapsed a b : Int) else (elapsed a b : Int) - 2 ^ 32

/-- The expiry of a timer started at `now` with a length in microseconds (R95). -/
def expiry (now : Word) (length : Nat) : Word := now + BitVec.ofNat 32 length

/-- The length of a limit given in milliseconds (R95). -/
def millis (n : Nat) : Nat := 1000 * n

/-- The timebase `now` has reached the expiry time of a running timer (R95, log 29). -/
def reached (now : Word) (timer : Option Word) : Bool :=
  match timer with
  | none => false
  | some t => elapsed t now < 2 ^ 31

/-! ### The mailboxes' bytes (R169) -/

/-- The byte at an address; an unlisted byte reads 0. -/
def Memory.read : Memory → Nat → Byte
  | [], _ => 0
  | (k, v) :: m, a => if k = a then v else Memory.read m a

/-- The cells from address `a` on replaced so that `a` reads `b`. -/
def Memory.insert : Memory → Nat → Byte → Memory
  | [], a, b => if b = 0 then [] else [(a, b)]
  | (k, v) :: m, a, b =>
    if a < k then (if b = 0 then (k, v) :: m else (a, b) :: (k, v) :: m)
    else if a = k then (if b = 0 then m else (a, b) :: m)
    else (k, v) :: Memory.insert m a b

/-- Store a byte. An address past the mailbox's last byte stores nothing (R169). -/
def Memory.write (m : Memory) (a : Nat) (b : Byte) : Memory :=
  if a < Config.mailboxSize then Memory.insert m a b else m

/-- The cells of bytes that stand from address `a` on. -/
def Memory.cellsAt : Nat → List Byte → Memory
  | _, [] => []
  | a, b :: bs => if b = 0 then Memory.cellsAt (a + 1) bs else (a, b) :: Memory.cellsAt (a + 1) bs

/-- A mailbox that holds these bytes from offset 0 and 0 in every byte after them (R173). -/
def Memory.holding (bs : List Byte) : Memory :=
  Memory.cellsAt 0 (bs.take Config.mailboxSize)

/-- Addresses from `lo` on, strictly rising, inside the mailbox, no byte 0 listed. -/
def Memory.wfFrom : Nat → Memory → Bool
  | _, [] => true
  | lo, (k, v) :: m => decide (lo ≤ k) && decide (k < Config.mailboxSize) && v != 0 && Memory.wfFrom (k + 1) m

/-- The canonical form. -/
def Memory.wf (m : Memory) : Bool := Memory.wfFrom 0 m

/-- `n` bytes from an address on. -/
def Memory.slice (m : Memory) (a n : Nat) : List Byte :=
  (List.range n).map fun i => Memory.read m (a + i)

/-! ### Codes of the named values (R195, R196) -/

def portCode : Port → Nat
  | .mp0 => 0
  | .mp1 => 1

def portOther : Port → Port
  | .mp0 => .mp1
  | .mp1 => .mp0

/-- The bit that stands for MP1. -/
def portBit (p : Port) : BitVec 1 := BitVec.ofBool (p == .mp1)

def ResetCause.code : ResetCause → Nat
  | .powerOn => 0
  | .pin => 1
  | .core => 2

def Feed.code : Feed → Nat
  | .link => 0
  | .posted => 1

def RunState.code : RunState → Nat
  | .run => 0
  | .hold => 1
  | .step => 2

def TriggerMode.code : TriggerMode → Nat
  | .command => 0
  | .strobe => 1
  | .strobeOnce => 2

def FullPolicy.code : FullPolicy → Nat
  | .dropNew => 0
  | .replaceOldest => 1

def FillMode.code : FillMode → Nat
  | .profile => 0
  | .unity => 1
  | .fixed => 2

def ArbiterPriority.code : ArbiterPriority → Nat
  | .none => 0
  | .mp0 => 1
  | .mp1 => 2

def Presence.code : Presence → Nat
  | .attached => 0
  | .detached => 1

def TrackerState.code : TrackerState → Nat
  | .absent => 0
  | .live => 1
  | .silent => 2

def SlotState.code : SlotState → Nat
  | .pendingFrame => 0
  | .pendingCover => 1
  | .ready => 2
  | .inEngine => 3

/-- The refusal codes of R194. -/
def RefusalCode.code : RefusalCode → Nat
  | .portDisabled => 1
  | .mode => 2
  | .badWindow => 3
  | .badGrid => 4
  | .queueFull => 5
  | .frameUnknown => 6
  | .frameTimeout => 7
  | .superseded => 8
  | .genMismatch => 9
  | .noProfile => 10

/-- The event kind codes of R195. -/
def EventKind.code : EventKind → Nat
  | .resetDone => 1
  | .lensAttached => 2
  | .lensDetached => 3
  | .converterChanged => 4
  | .noProfile => 5
  | .linkSilent => 6
  | .linkRestored => 7
  | .sourceChanged => 8
  | .linkErrors => 9
  | .linkGap => 10
  | .profileApplied => 11
  | .strobeLocked => 12
  | .strobeLost => 13
  | .strobeDropped => 14
  | .meshAbandoned => 15
  | .responseReady => 16

/-- Class H, where true; class L otherwise (R182). -/
def EventKind.classH : EventKind → Bool
  | .resetDone | .lensAttached | .lensDetached | .converterChanged | .noProfile | .linkSilent
  | .sourceChanged | .strobeLost | .meshAbandoned | .responseReady => true
  | .linkRestored | .linkErrors | .linkGap | .profileApplied | .strobeLocked | .strobeDropped => false

/-- The sixteen slot numbers, lowest first. -/
def slotNumbers : List (Fin 16) :=
  [0, 1, 2, 3, 4, 5, 6, 7, 8, 9, 10, 11, 12, 13, 14, 15]

/-- The slot a number names, if it names one. -/
def slotOf? (n : Nat) : Option (Fin 16) :=
  if h : n < 16 then some ⟨n, h⟩ else none

/-- A slot field: a slot number, or 0xFF for none (R196). -/
def slotByte : Option (Fin 16) → Byte
  | none => 0xFF
  | some k => BitVec.ofNat 8 k.val

/-! ### Views of the state -/

/-- The mesh port `p`. -/
def State.port (s : State) (p : Port) : MeshPort := s.ports.get p

def State.setPort (s : State) (p : Port) (x : MeshPort) : State :=
  { s with ports := s.ports.set p x }

/-- A lens is on record and attached (R66). -/
def State.attached (s : State) : Bool :=
  match s.lst.record with
  | some r => r.presence == .attached
  | none => false

/-- A feed's freshness (R61, R79). -/
def State.freshOf (s : State) : Feed → Bool
  | .link => s.llr.fresh
  | .posted => s.lst.postedFresh

/-- The tracker's state by the condition of R68. -/
def State.trackerState (s : State) : TrackerState :=
  if s.attached then (if s.freshOf s.lst.source then .live else .silent) else .absent

/-- The newest timeline entry. -/
def State.newest? (s : State) : Option Entry := s.lst.timeline.getLast?

/-- The profile in a slot, where it is occupied. -/
def State.profile? (s : State) (k : Fin 16) : Option Profile := (s.store.slots.get k).profile

/-- A mesh of the port is in progress (R139). -/
def State.inProgress (s : State) (p : Port) : Bool :=
  match s.me.mesh with
  | some m => m.port == p
  | none => false

/-- Reservations of the reply queue: one for each occupied slot, one for a record being taken (R125). -/
def MeshPort.reservations (q : MeshPort) : Nat :=
  q.slots.length + (if q.gathered.isEmpty then 0 else 1)

/-- Places of the reply queue in use: refuse records and reservations (R125). -/
def MeshPort.placesUsed (q : MeshPort) : Nat := q.replies.length + q.reservations

/-- The reply queue has a free place (R125). -/
def MeshPort.freePlace (q : MeshPort) : Bool := q.placesUsed < Config.replyCapacity

/-! ### Posting an event (R184) -/

/-- The event unit after a posting: a masked kind sets its summary bit; an unmasked event is appended,
or lost with the overflow flag set where the queue is full (R184). -/
def EventUnit.post (u : EventUnit) (masked : Bool) (e : Event) : EventUnit :=
  if masked then { u with summary := u.summary ||| BitVec.twoPow 17 e.kind.code }
  else if u.queue.length < Config.queueCapacity then { u with queue := u.queue ++ [e] }
  else { u with overflow := true }

/-- The mask flag of a kind (R188). -/
def State.masked (s : State) (k : EventKind) : Bool := s.config.mask.getLsbD k.code

/-- Post an event of kind `k` at this moment (R182, R184). -/
def State.post (s : State) (k : EventKind) (param : Half) : State :=
  { s with eu := s.eu.post (s.masked k) ⟨k, param, s.time⟩ }

/-- NOTIFYn is asserted (R189): an H event is queued, or an L event with DEFER_LOW clear; never during
INIT_BUSY (R167). -/
def State.notifyAsserted (s : State) : Bool :=
  !s.cp.initBusy && s.eu.queue.any fun e => e.kind.classH || !s.config.deferLow

end Sys2Proof.Machine
end

