-- ==== Sys2Proof/Machine/Operands.lean ====
section
/-! DEFINITION. What the part reads: request records, coefficient sets and the arguments of mailbox commands, with the byte layouts in which it gives them back. -/

namespace Sys2Proof.Machine

/-! ### The request record (R193) -/

/-- Word `i` of a record, 0 where the record is shorter. -/
def wordAt (ws : List Word) (i : Nat) : Word := ws.getD i 0

/-- Fill mode code 3 is taken as UNITY (R123). -/
def fillModeOf (c : BitVec 2) : FillMode :=
  if c = 0 then .profile else if c = 2 then .fixed else .unity

/-- The fields of a request record of eight words (R193). -/
def RequestFields.ofWords (ws : List Word) : RequestFields :=
  let w0 := wordAt ws 0
  let w1 := wordAt ws 1
  let w2 := wordAt ws 2
  let w3 := wordAt ws 3
  { tag := w0.extractLsb' 16 16
    frame := w0.extractLsb' 0 16
    expectedGen := w1.extractLsb' 24 8
    stepCode := w1.extractLsb' 22 2
    fillMode := fillModeOf (w1.extractLsb' 20 2)
    latest := w1.getLsbD 4
    requireProfile := w1.getLsbD 3
    strictGen := w1.getLsbD 2
    waitCover := w1.getLsbD 1
    rgb := w1.getLsbD 0
    x0 := w2.extractLsb' 16 16
    y0 := w2.extractLsb' 0 16
    width := w3.extractLsb' 16 16
    height := w3.extractLsb' 0 16
    lineTime := (wordAt ws 4).extractLsb' 0 16
    exposure := wordAt ws 5
    fixedFill := wordAt ws 6 }

/-- The eight words that carry the fields, reserved parts 0 (R192, R193, log 17). -/
def RequestFields.toWords (f : RequestFields) : List Word :=
  [ f.tag ++ f.frame,
    f.expectedGen ++ f.stepCode ++ BitVec.ofNat 2 f.fillMode.code ++ 0#15 ++ BitVec.ofBool f.latest
      ++ BitVec.ofBool f.requireProfile ++ BitVec.ofBool f.strictGen ++ BitVec.ofBool f.waitCover
      ++ BitVec.ofBool f.rgb,
    f.x0 ++ f.y0,
    f.width ++ f.height,
    0#16 ++ f.lineTime,
    f.exposure,
    f.fixedFill,
    0 ]

/-- The words that bytes spell, four bytes each, most significant first (R192). -/
def wordsOf : List Byte → List Word
  | a :: b :: c :: d :: bs => word [a, b, c, d] :: wordsOf bs
  | _ => []

/-- A port template as 32 bytes (R196). -/
def RequestFields.toBytes (f : RequestFields) : List Byte := f.toWords.flatMap bytes32

/-! ### Coefficient sets and profile headers (R196, R197) -/

/-- The signed value of a Q3.20 coefficient (R6). -/
def coeff (c : BitVec 24) : Int := c.toInt

def CoeffSet.zero : CoeffSet := ⟨0, 0, 0, 0, 0, 0, 0, 0⟩

/-- Every coefficient as the 24-bit pattern of a protected read (R41). -/
def CoeffSet.hidden : CoeffSet :=
  ⟨0xFFFFFF, 0xFFFFFF, 0xFFFFFF, 0xFFFFFF, 0xFFFFFF, 0xFFFFFF, 0xFFFFFF, 0xFFFFFF⟩

def CoeffSet.toBytes (c : CoeffSet) : List Byte :=
  [c.k1, c.k2, c.k3, c.aR0, c.aR1, c.aB0, c.aB1, c.fill].flatMap bytes24

/-- Coefficient `i` of the set whose 24 bytes start at `a`. -/
def coeffAt (m : Memory) (a i : Nat) : BitVec 24 :=
  BitVec.ofNat 24 (natOfBytes (m.slice (a + 3 * i) 3))

/-- The coefficient set whose 24 bytes start at `a` (R196). -/
def CoeffSet.ofBox (m : Memory) (a : Nat) : CoeffSet where
  k1 := coeffAt m a 0
  k2 := coeffAt m a 1
  k3 := coeffAt m a 2
  aR0 := coeffAt m a 3
  aR1 := coeffAt m a 4
  aB0 := coeffAt m a 5
  aB1 := coeffAt m a 6
  fill := coeffAt m a 7

/-- The node table size: focal count × focus count (R7). -/
def ProfileHeader.tableSize (h : ProfileHeader) : Nat := h.focals.length * h.focuses.length

/-- The header as PROFILE_READ returns it (R197). -/
def ProfileHeader.toBytes (h : ProfileHeader) (generation : Byte) : List Byte :=
  bytes32 h.lensId
    ++ [h.converter.setWidth 8, boolByte h.isProtected, generation]
    ++ bytes32 (h.rn16.setWidth 32) ++ bytes16 h.ox ++ bytes16 h.oy
    ++ [BitVec.ofNat 8 h.focals.length, BitVec.ofNat 8 h.focuses.length]
    ++ h.focals.flatMap bytes16
    ++ h.focuses.flatMap fun u => bytes16 (u.setWidth 16)

/-! ### Arguments of the command in the command mailbox (R172, R196) -/

/-- The length field of the command in the mailbox. -/
def State.cmdLength (s : State) : Nat := natOfBytes (s.cp.cmdBox.slice 0 2)

/-- The command code. -/
def State.cmdCode (s : State) : Nat := (s.cp.cmdBox.read 2).toNat

/-- An argument of `n` bytes at offset `a` of the mailbox, as a number. -/
def State.arg (s : State) (a n : Nat) : Nat := natOfBytes (s.cp.cmdBox.slice a n)

/-- A 16-bit argument. -/
def State.arg16 (s : State) (a : Nat) : Half := BitVec.ofNat 16 (s.arg a 2)

/-- A 32-bit argument. -/
def State.arg32 (s : State) (a : Nat) : Word := BitVec.ofNat 32 (s.arg a 4)

/-- A count byte of a command of variable length: a free value where the command's length leaves it out
(R172 has bytes beyond the length ignored; log 12). -/
def State.countArg (s : State) (a : Nat) : Nat :=
  if a < s.cmdLength then s.arg a 1 else (Config.absentByte s.freeIndex a).toNat

/-- `n` 16-bit values from offset `a` on. -/
def State.argList (s : State) (a n : Nat) : List Nat :=
  (List.range n).map fun i => s.arg (a + 2 * i) 2

/-- The first failing of numbered checks (R174): the number of the first whose condition is false. -/
def firstFailing : List (Nat × Bool) → Option Nat
  | [] => none
  | (n, ok) :: rest => if ok then firstFailing rest else some n

/-- Values strictly ascending, each in `lo..hi` (R7, R29). -/
def ascendingIn (lo hi : Nat) : List Nat → Bool
  | [] => true
  | v :: vs => decide (lo ≤ v) && decide (v ≤ hi) && ascendingIn (v + 1) hi vs

end Sys2Proof.Machine
end

