-- ==== Sys2Proof/Machine/Flags.lean ====
section
/-! DEFINITION. What the part shows: the flag words and records of the mesh channel, the parameters of events, the items of the control port, the ready and valid lines. -/

namespace Sys2Proof.Machine

/-! ### Records of the mesh channel (R194) -/

/-- The flags of a row header (R118, R194). -/
structure RowFlags where
  noState : Bool := false
  beforeHistory : Bool := false
  held : Bool := false
  heldStale : Bool := false
  noProfile : Bool := false
  epochChanged : Bool := false
  outsideGrid : Bool := false
  converterMismatch : Bool := false
  saturated : Bool := false
  deriving DecidableEq, Repr

/-- The nine flags as bits [27:19] of the row header. -/
def RowFlags.bits (f : RowFlags) : BitVec 9 :=
  BitVec.ofBool f.noState ++ BitVec.ofBool f.beforeHistory ++ BitVec.ofBool f.held ++ BitVec.ofBool f.heldStale
    ++ BitVec.ofBool f.noProfile ++ BitVec.ofBool f.epochChanged ++ BitVec.ofBool f.outsideGrid
    ++ BitVec.ofBool f.converterMismatch ++ BitVec.ofBool f.saturated

/-- The row carries at least one flag of any kind (R155). -/
def RowFlags.any (f : RowFlags) : Bool := f.bits != 0

/-- A resolved lens state (R110). -/
structure LensState where
  focal : Half
  focus : BitVec 12
  converter : BitVec 2
  deriving DecidableEq, Repr

/-- Focal 0, focus 0, converter 0: NO_STATE and EPOCH_CHANGED rows (R118). -/
def LensState.zero : LensState := ⟨0, 0, 0⟩

/-- ROW_HEADER (R194). -/
def rowHeader (f : RowFlags) (row : Nat) (rowTime : Word) (l : LensState) : List Word :=
  [0x2#4 ++ f.bits ++ 0#9 ++ l.converter ++ BitVec.ofNat 8 row, rowTime, l.focal ++ 0#4 ++ l.focus]

/-- One node word: Δx over Δy (R194). -/
def nodeWord (dx dy : Int) : Word := BitVec.ofInt 16 dx ++ BitVec.ofInt 16 dy

/-- MESH_HEADER (R151, R194). -/
def meshHeader (r : Request) (epoch : Half) (b : Binding) : List Word :=
  [ 0x1#4 ++ BitVec.ofBool (b.choice == .overridden) ++ BitVec.ofBool (b.choice == .fallbackBase)
      ++ BitVec.ofBool (b.choice == .noProfile) ++ BitVec.ofBool r.coverIncomplete ++ BitVec.ofBool r.fillClamped
      ++ BitVec.ofBool r.fields.rgb ++ BitVec.ofNat 2 r.fields.fillMode.code ++ r.fields.stepCode ++ 0#2
      ++ r.fields.tag,
    (r.strobe.map (·.frame)).getD 0 ++ b.generation ++ epoch.extractLsb' 0 8,
    b.lensId,
    BitVec.ofNat 4 ((b.slot.map (·.val)).getD 0) ++ b.converter ++ 0#2 ++ BitVec.ofNat 12 r.nc ++ BitVec.ofNat 12 r.nr ]

/-- How a mesh ended (R155). -/
inductive MeshStatus where
  | complete
  | lensChanged
  | abandoned
  deriving DecidableEq, Repr

def MeshStatus.code : MeshStatus → Nat
  | .complete => 0
  | .lensChanged => 1
  | .abandoned => 2

/-- TRAILER (R155, R194). -/
def trailer (m : Mesh) (status : MeshStatus) : List Word :=
  [ 0x3#4 ++ BitVec.ofNat 2 status.code ++ 0#10 ++ m.request.fields.tag,
    BitVec.ofNat 16 m.nodes ++ BitVec.ofNat 16 m.saturated,
    0#24 ++ BitVec.ofNat 8 m.flagged ]

/-- REFUSE (R126, R194). -/
def RefuseRecord.toWords (r : RefuseRecord) : List Word :=
  [0x4#4 ++ BitVec.ofNat 4 r.code.code ++ r.generation ++ r.tag, r.frame ++ 0#16]

/-- RESYNC with a cause code (0 POWER_ON, 1 PIN, 2 CORE, 3 PORT) and the time of the reset (R140, R194). -/
def resync (cause : Nat) (time : Word) : List Word :=
  [0x5#4 ++ BitVec.ofNat 2 cause ++ 0#26, time]

/-! ### Parameters of events (R183, R195) -/

/-- SOURCE_CHANGED: [8] automatic, [0] the new source. -/
def sourceParam (automatic : Bool) (f : Feed) : Half :=
  0#7 ++ BitVec.ofBool automatic ++ 0#7 ++ BitVec.ofNat 1 f.code

/-- PROFILE_APPLIED: [15:8] generation, [4] delete, [3:0] slot. -/
def appliedParam (generation : Byte) (isDelete : Bool) (k : Fin 16) : Half :=
  generation ++ 0#3 ++ BitVec.ofBool isDelete ++ BitVec.ofNat 4 k.val

/-- STROBE_LOCKED: [15] port, [14:0] floor(L / 8), at most 32,767. -/
def lockedParam (p : Port) (period : Nat) : Half :=
  portBit p ++ BitVec.ofNat 15 (min 32767 (period / 8))

/-- STROBE_LOST, STROBE_DROPPED, MESH_ABANDONED: [15] port, [7:0] a low byte. -/
def portParam (p : Port) (low : Byte) : Half := portBit p ++ 0#7 ++ low

/-! ### The items of the control port (R164, R165, R195) -/

def Staging.code : Staging → Nat
  | .closed => 0
  | .opened _ => 1
  | .committing _ => 2

/-- The pending operation's kind: 0 none, 1 commit, 2 delete. -/
def pendingCode : Option StoreOp → Nat
  | none => 0
  | some (.commit _) => 1
  | some (.delete _) => 2

def StoreOp.slot : StoreOp → Fin 16
  | .commit k => k
  | .delete k => k

def Lock.isLocked : Lock → Bool
  | .unlocked _ => false
  | .locked _ _ => true

/-- The port a busy engine serves; MP0's code while idle (R195). -/
def Engine.busyBit (e : Engine) : BitVec 1 :=
  match e.mesh with
  | some m => portBit m.port
  | none => 0

/-- STATUS (R165, R195). -/
def State.statusWord (s : State) : Word :=
  BitVec.ofBool s.cp.initBusy ++ BitVec.ofNat 2 s.cp.resetCause.code ++ BitVec.ofNat 2 s.trackerState.code
    ++ BitVec.ofNat 1 s.lst.source.code ++ BitVec.ofBool s.llr.fresh ++ BitVec.ofBool s.lst.postedFresh
    ++ BitVec.ofNat 2 s.me.runState.code ++ BitVec.ofBool s.me.mesh.isSome ++ s.me.busyBit
    ++ BitVec.ofBool s.ports.mp1.config.enabled ++ BitVec.ofBool s.ports.mp0.config.enabled
    ++ BitVec.ofNat 2 s.ports.mp1.config.mode.code ++ BitVec.ofNat 2 s.ports.mp0.config.mode.code
    ++ BitVec.ofBool s.tsu.mp1.lock.isLocked ++ BitVec.ofBool s.tsu.mp0.lock.isLocked
    ++ BitVec.ofNat 2 s.store.staging.code ++ BitVec.ofNat 2 (pendingCode s.store.pendingOp)
    ++ BitVec.ofBool s.eu.overflow ++ 0#7

/-- SUMMARY (R187, R195). -/
def State.summaryWord (s : State) : Word :=
  BitVec.ofBool s.eu.overflow ++ BitVec.ofBool s.eu.accessViolation ++ 0#13
    ++ (s.eu.summary.extractLsb' 1 16 ++ 0#1)

/-- EVENT_POP: the oldest event's kind and parameter, or NONE (R185, R195). -/
def State.eventWord (s : State) : Word :=
  match s.eu.queue with
  | [] => 0
  | e :: _ => 0#8 ++ BitVec.ofNat 8 e.kind.code ++ e.param

/-- MAILBOX_FLAGS (R170, R195). -/
def State.flagsWord (s : State) : Word :=
  0#30 ++ BitVec.ofBool s.cp.rspFlag ++ BitVec.ofBool s.cp.cmdFlag

/-- MAILBOX_SELECT (R169, R195). -/
def State.selectWord (s : State) : Word :=
  BitVec.ofBool (s.cp.select == .response) ++ 0#22 ++ BitVec.ofNat 9 s.cp.offset

/-- ID: vendor code 0x5C1, part code 0x612, revision 1 (R166, R195). -/
def idWord : Word := 0x5C1#12 ++ 0x612#12 ++ 1#8

/-- The value a read of an item other than MAILBOX_DATA takes at its address byte (R163, R164, R195).
An address that names no item reads 0. -/
def State.readItem (s : State) (address : BitVec 7) : Word :=
  if address = 0x00#7 then idWord
  else if address = 0x01#7 then s.statusWord
  else if address = 0x02#7 then s.time
  else if address = 0x03#7 then s.eventWord
  else if address = 0x04#7 then s.eu.eventTime
  else if address = 0x05#7 then s.summaryWord
  else if address = 0x08#7 then s.flagsWord
  else if address = 0x09#7 then s.selectWord
  else 0

/-! ### The channels' handshakes -/

/-- The port holds its request channel's ready raised: for a record's first word while its reply queue
has a free place, for the other words without condition, and never during INIT_BUSY (R122). -/
def State.requestReady (s : State) (p : Port) : Bool :=
  !s.cp.initBusy && (!(s.port p).gathered.isEmpty || (s.port p).freePlace)

/-- The port holds its mesh channel's valid raised (R138). -/
def State.meshValid (s : State) (p : Port) : Bool := !(s.port p).fifo.isEmpty

/-- The word on the mesh channel: the FIFO's oldest (R138). -/
def State.meshData (s : State) (p : Port) : Option Word := (s.port p).fifo.head?

end Sys2Proof.Machine
end

