-- ==== Sys2Proof/Machine/Correction.lean ====
section
/-! DEFINITION. The correction model of chapter 1: mesh geometry, the coefficients of a row, the evaluation of a node. Exact integers, rounded and clamped only where a rule says so. -/

namespace Sys2Proof.Machine

/-! ### Mesh geometry (R2 to R5) -/

/-- The grid step of a step code (R3). -/
def gridStep (code : BitVec 2) : Nat := 16 * 2 ^ code.toNat

/-- ceil(n / s). -/
def ceilDiv (n s : Nat) : Nat := (n + s - 1) / s

/-- Columns or rows for a window width or height: ceil(w / s) + 1 (R4). -/
def gridCount (extent : Half) (code : BitVec 2) : Nat := ceilDiv extent.toNat (gridStep code) + 1

/-- The grid is within the three limits of R4. -/
def gridFits (nc nr : Nat) : Bool := decide (nc ≤ 257) && decide (nr ≤ 193) && decide (nc * nr ≤ 16384)

/-- One coordinate of the array centre: 8 × (size − 1) + offset (R2). -/
def centreOf (size : Half) (offset : Half) : Int := 8 * ((size.toNat : Int) - 1) + offset.toInt

/-- The pixel coordinate of a node along one axis (R3). -/
def nodePixel (origin : Half) (code : BitVec 2) (i : Nat) : Nat := origin.toNat + i * gridStep code

/-- A node's offset from the centre along one axis, in sixteenths of a pixel (R5). -/
def nodeOffset (pixel : Nat) (centre : Int) : Int := 16 * (pixel : Int) - centre

/-! ### Coefficients for a row (R8 to R10) -/

/-- A value located on a node list: interval index, the index of the node after it, weight, and whether
the clamp changed the value. -/
structure Located where
  index : Nat
  next : Nat
  weight : Nat
  clamped : Bool
  deriving DecidableEq, Repr

/-- Clamp a value into a node list's range (R8). -/
def clampOnto (nodes : List Nat) (v : Nat) : Nat := max (nodes.headD 0) (min (nodes.getLastD 0) v)

/-- The greatest index whose node is not greater than `v`, at most the second-to-last (R8). -/
def intervalIndex (nodes : List Nat) (v : Nat) : Nat :=
  min (nodes.length - 2) (((List.range nodes.length).filter fun i => decide (nodes.getD i 0 ≤ v)).getLastD 0)

/-- Locate a value on a node list of two or more nodes (R8), or of one (R9). -/
def locate (nodes : List Nat) (v : Nat) : Located :=
  let v' := clampOnto nodes v
  if nodes.length ≤ 1 then ⟨0, 0, 0, v' != v⟩
  else
    let a := intervalIndex nodes v'
    let lo := nodes.getD a 0
    let hi := nodes.getD (a + 1) 0
    ⟨a, a + 1, (v' - lo) * 4096 / (hi - lo), v' != v⟩

/-- The eight coefficients of a row (R10). -/
structure RowCoeffs where
  k1 : Int
  k2 : Int
  k3 : Int
  aR0 : Int
  aR1 : Int
  aB0 : Int
  aB1 : Int
  fill : Int
  deriving DecidableEq, Repr

/-- The bilinear average of one coefficient at the four surrounding nodes (R10). -/
def bilinear (wf wu : Nat) (c00 c10 c01 c11 : Int) : Int :=
  let f : Int := wf
  let u : Int := wu
  ((4096 - f) * (4096 - u) * c00 + f * (4096 - u) * c10 + (4096 - f) * u * c01 + f * u * c11 + 2 ^ 23) / 2 ^ 24

/-- The coefficient set for a pair of focal and focus index, focal-major (R7). -/
def Profile.setAt (p : Profile) (a b : Nat) : CoeffSet :=
  p.table.getD (a * p.header.focuses.length + b) CoeffSet.zero

/-- The row coefficients for a lens state's focal and focus, and whether the grid clamp acted (R8 to R11). -/
def rowCoeffs (p : Profile) (focal focus : Nat) : RowCoeffs × Bool :=
  let f := locate (p.header.focals.map (·.toNat)) focal
  let u := locate (p.header.focuses.map (·.toNat)) focus
  let c00 := p.setAt f.index u.index
  let c10 := p.setAt f.next u.index
  let c01 := p.setAt f.index u.next
  let c11 := p.setAt f.next u.next
  ({ k1 := bilinear f.weight u.weight (coeff c00.k1) (coeff c10.k1) (coeff c01.k1) (coeff c11.k1)
     k2 := bilinear f.weight u.weight (coeff c00.k2) (coeff c10.k2) (coeff c01.k2) (coeff c11.k2)
     k3 := bilinear f.weight u.weight (coeff c00.k3) (coeff c10.k3) (coeff c01.k3) (coeff c11.k3)
     aR0 := bilinear f.weight u.weight (coeff c00.aR0) (coeff c10.aR0) (coeff c01.aR0) (coeff c11.aR0)
     aR1 := bilinear f.weight u.weight (coeff c00.aR1) (coeff c10.aR1) (coeff c01.aR1) (coeff c11.aR1)
     aB0 := bilinear f.weight u.weight (coeff c00.aB0) (coeff c10.aB0) (coeff c01.aB0) (coeff c11.aB0)
     aB1 := bilinear f.weight u.weight (coeff c00.aB1) (coeff c10.aB1) (coeff c01.aB1) (coeff c11.aB1)
     fill := bilinear f.weight u.weight (coeff c00.fill) (coeff c10.fill) (coeff c01.fill) (coeff c11.fill) },
   f.clamped || u.clamped)

/-! ### Evaluating a node (R12 to R19) -/

/-- A value of a stage, and whether a clamp has acted (R19). -/
structure Marked where
  value : Int
  marked : Bool
  deriving DecidableEq, Repr

/-- Clamp a value, marking it where the clamp changes it (R19). -/
def clampMark (lo hi v : Int) : Marked := ⟨clampInt lo hi v, decide (v < lo) || decide (hi < v)⟩

/-- Clamp into the Q11.20 range (section 1.5, stage table). -/
def clampQ (v : Int) : Marked := clampMark (-2147483648) 2147483647 v

/-- Clamp a displacement (R18). -/
def clampDisp (v : Int) : Marked := clampMark (-32768) 32767 v

/-- The normalised squared radius ρ (R12). -/
def rho (dx dy rn16 : Int) : Marked :=
  clampMark 0 4294967295 ((dx ^ 2 + dy ^ 2) * 2 ^ 30 / rn16 ^ 2)

/-- One Horner stage: `c` plus (`q` × ρ rounded at 30), clamped (R13). -/
def horner (c : Int) (q : Marked) (r : Int) : Marked :=
  let v := clampQ (c + roundAt 30 (q.value * r))
  ⟨v.value, q.marked || v.marked⟩

/-- The green factor F_G (R13). -/
def greenFactor (k1 k2 k3 r : Int) : Marked :=
  horner (2 ^ 20) (horner k1 (horner k2 ⟨k3, false⟩ r) r) r

/-- The red or blue factor: F_G times the channel term 2^20 + a0 + (a1 × ρ rounded at 30), rounded at 20
and clamped (R14). -/
def channelFactor (fg a0 a1 r : Int) : Marked :=
  clampQ (roundAt 20 (fg * (2 ^ 20 + a0 + roundAt 30 (a1 * r))))

/-- The effective factor: the factor times the fill scale, rounded at 20 and clamped (R17). -/
def effective (f s : Int) : Marked := clampQ (roundAt 20 (f * s))

/-- A displacement component: d × (E − 2^20) rounded at 20 and clamped (R18). -/
def displacement (d e : Int) : Marked := clampDisp (roundAt 20 (d * (e - 2 ^ 20)))

/-- A channel's word and whether its effective factor or a displacement clamped (R17, R18). -/
def channelWord (dx dy f s : Int) : Word × Bool :=
  let e := effective f s
  let x := displacement dx e.value
  let y := displacement dy e.value
  (nodeWord x.value y.value, e.marked || x.marked || y.marked)

/-- The fill scale of a row (R15). -/
def fillScale (fields : RequestFields) (c : RowCoeffs) : Int :=
  match fields.fillMode with
  | .profile => c.fill
  | .unity => 2 ^ 20
  | .fixed => fields.fixedFill.toInt

/-- The words of a node and its saturation mark (R12 to R19): green alone for G_ONLY, green, red and
blue for RGB. -/
def evalNode (rgb : Bool) (rn16 : Int) (c : RowCoeffs) (s dx dy : Int) : List Word × Bool :=
  let r := rho dx dy rn16
  let g := greenFactor c.k1 c.k2 c.k3 r.value
  let green := channelWord dx dy g.value s
  let mark := r.marked || g.marked || green.2
  if rgb then
    let fr := channelFactor g.value c.aR0 c.aR1 r.value
    let fb := channelFactor g.value c.aB0 c.aB1 r.value
    let red := channelWord dx dy fr.value s
    let blue := channelWord dx dy fb.value s
    ([green.1, red.1, blue.1], mark || fr.marked || red.2 || fb.marked || blue.2)
  else ([green.1], mark)

/-- The nodes of a computed row, left to right (R21): their words and how many are marked. -/
def evalRow (r : Request) (rn16 : Int) (c : RowCoeffs) (centre : Int × Int) (j : Nat) : List Word × Nat :=
  let s := fillScale r.fields c
  let dy := nodeOffset (nodePixel r.fields.y0 r.fields.stepCode j) centre.2
  let nodes := (List.range r.nc).map fun i =>
    evalNode r.fields.rgb rn16 c s (nodeOffset (nodePixel r.fields.x0 r.fields.stepCode i) centre.1) dy
  (nodes.flatMap (·.1), nodes.countP (·.2))

/-- The words of one identity node, all components 0 (R20). -/
def identityWords (r : Request) : List Word :=
  List.replicate (if r.fields.rgb then 3 * r.nc else r.nc) 0

end Sys2Proof.Machine
end

