-- ==== Sys2Proof/Machine/Exposure.lean ====
section
/-! DEFINITION. Chapter 6: the instant of a row, and the lens state that the timeline gives for an instant. -/

namespace Sys2Proof.Machine

/-! ### The instant of a row (R106) -/

/-- The readout delay of a line in microseconds, to the nearest, halves up (R106). -/
def readoutDelay (line lineTime : Nat) : Nat := (line * lineTime + 500) / 1000

/-- Microseconds from the strobe to the middle of the exposure of sensor line `y`, clamped to the array
of height `h` (R106). -/
def rowDelay (f : RequestFields) (h : Half) (y : Nat) : Nat :=
  readoutDelay (min y (h.toNat - 1)) f.lineTime.toNat + f.exposure.toNat / 2

/-- The row time of row `j` (R106). -/
def rowTime (f : RequestFields) (h : Half) (strobe : Word) (j : Nat) : Word :=
  strobe + BitVec.ofNat 32 (rowDelay f h (nodePixel f.y0 f.stepCode j))

/-- The centre row of a mesh of `nr` rows (R45, R109). -/
def centreRow (nr : Nat) : Nat := (nr - 1) / 2

/-! ### Resolving an instant (R110 to R116) -/

/-- A resolved instant: the lens state and the resolution flags. -/
structure Resolved where
  lens : LensState
  flags : RowFlags
  deriving DecidableEq, Repr

def Entry.lens (e : Entry) : LensState := ⟨e.focal, e.focus, e.converter⟩

/-- Linear interpolation of one value with weight w in 0..4095 (R114). -/
def interpolate (a b w : Int) : Int := a + ((b - a) * w + 2048) / 4096

/-- An instant between two entries (R114, R115). -/
def between (a b : Entry) (t : Word) : LensState :=
  if a.converter = b.converter then
    let w := timeDiff a.tLast t * 4096 / timeDiff a.tLast b.tFirst
    { focal := BitVec.ofInt 16 (interpolate a.focal.toNat b.focal.toNat w)
      focus := BitVec.ofInt 12 (interpolate a.focus.toNat b.focus.toNat w)
      converter := a.converter }
  else a.lens

/-- Tests 4 to 6 of R110: the newest entry whose t_first the instant is not earlier than, with the
entry after it, if any. `best` is the newest found so far. -/
def newestNotAfter (t : Word) (best : Option (Entry × Option Entry)) : List Entry → Option (Entry × Option Entry)
  | [] => best
  | e :: es =>
    newestNotAfter t (if notEarlier t e.tFirst then some (e, es.head?) else best) es

/-- Resolve an instant against a timeline with the hold limit in force (R110). -/
def resolve (timeline : List Entry) (holdLimit : Half) (t : Word) : Resolved :=
  match timeline.head?, timeline.getLast? with
  | some oldest, some newest =>
    if later t newest.tLast then
      ⟨newest.lens, { held := true, heldStale := decide ((holdLimit.toNat : Int) < timeDiff newest.tLast t) }⟩
    else if earlier t oldest.tFirst then ⟨oldest.lens, { beforeHistory := true }⟩
    else
      match newestNotAfter t none timeline with
      | none => ⟨oldest.lens, { beforeHistory := true }⟩
      | some (k, next?) =>
        if notLater t k.tLast then ⟨k.lens, {}⟩
        else
          match next? with
          | some next => ⟨between k next t, {}⟩
          | none => ⟨k.lens, {}⟩
  | _, _ => ⟨LensState.zero, { noState := true }⟩

/-! ### Coverage (R119) -/

/-- A cover time is covered: some entry exists and the newest t_last is not earlier than it (R119). -/
def covered (timeline : List Entry) (cover : Word) : Bool :=
  match timeline.getLast? with
  | none => false
  | some e => notEarlier e.tLast cover

end Sys2Proof.Machine
end

