-- ==== Sys2Proof/Machine/Slots.lean ====
section
/-! DEFINITION. The request slots of a port: judging a request's geometry and frame, taking a slot, resolving its frame, the coverage wait, refusals. -/

namespace Sys2Proof.Machine

/-! ### Checks and clamps of a request's fields -/

/-- The window is not empty and lies in the array (R124, check 3). -/
def windowFits (f : RequestFields) (c : ConfigSet) : Bool :=
  f.width != 0 && f.height != 0
    && decide (f.x0.toNat + f.width.toNat ≤ c.width.toNat)
    && decide (f.y0.toNat + f.height.toNat ≤ c.height.toNat)

def RequestFields.nc (f : RequestFields) : Nat := gridCount f.width f.stepCode

def RequestFields.nr (f : RequestFields) : Nat := gridCount f.height f.stepCode

/-- The fixed fill clamped into 524,288..2,097,152 (R16). -/
def clampFill (v : Word) : Word := BitVec.ofInt 32 (clampInt 524288 2097152 v.toInt)

/-- The fields with exposure and, in FIXED mode, the fixed fill clamped (R107, R16). -/
def RequestFields.clamped (f : RequestFields) : RequestFields :=
  { f with
    exposure := BitVec.ofNat 32 (min 1000000 f.exposure.toNat)
    fixedFill := if f.fillMode == .fixed then clampFill f.fixedFill else f.fixedFill }

/-- FILL_CLAMPED: the clamp of R16 changes the value. -/
def RequestFields.fillClamps (f : RequestFields) : Bool :=
  f.fillMode == .fixed && clampFill f.fixedFill != f.fixedFill

/-! ### Slots -/

/-- The lowest-numbered free slot (R124). -/
def freeSlot (slots : List Request) : Option (Fin 4) :=
  ([0, 1, 2, 3] : List (Fin 4)).find? fun k => slots.all fun r => r.slot != k

/-- A request as it is put into a slot, before its frame is resolved (R124, R127, R131, R134). -/
def newRequest (k : Fin 4) (f : RequestFields) (waitTimer : Word) : Request where
  slot := k
  fields := f.clamped
  fillClamped := f.fillClamps
  nc := f.nc
  nr := f.nr
  strobe := none
  coverTime := none
  coverIncomplete := false
  waitTimer := some waitTimer
  state := .pendingFrame

/-- The request is READY and its wait timer stops (R131). -/
def Request.makeReady (r : Request) (incomplete : Bool) : Request :=
  { r with state := .ready, coverIncomplete := incomplete, waitTimer := none }

/-- One test of a coverage wait (R132): covered first, then the tracker's state. -/
def settleCover (s : State) (r : Request) : Request :=
  match r.state, r.coverTime with
  | .pendingCover, some c =>
    if covered s.lst.timeline c then r.makeReady false
    else if s.trackerState == .live then r
    else r.makeReady true
  | _, _ => r

/-- The frame is resolved to a strobe record: the copy is taken, and the request waits for coverage or
is READY (R128 to R130, R119). -/
def resolveFrame (s : State) (rec : StrobeRecord) (r : Request) : Request :=
  let r := { r with strobe := some ⟨rec.frame, rec.time⟩ }
  if r.fields.waitCover then
    settleCover s
      { r with
        state := .pendingCover
        coverTime := some (rowTime r.fields s.config.height rec.time (r.nr - 1)) }
  else r.makeReady false

/-- Both ports test their coverage waits against the tracker as it stands (R132, log 34). -/
def State.testCover (s : State) : State :=
  { s with ports := s.ports.map fun q => { q with slots := q.slots.map (settleCover s) } }

/-! ### Frames (R129) -/

/-- The result of a frame lookup. -/
inductive FrameLookup where
  | resolved (rec : StrobeRecord)
  | pendingFrame
  | unknown
  deriving DecidableEq, Repr

/-- The frame lookup against the port's own strobe table (R129, R100). -/
def lookupFrame (u : StrobeUnit) (f : RequestFields) : FrameLookup :=
  if f.latest then
    match u.table.getLast? with
    | some rec => .resolved rec
    | none => .unknown
  else
    match u.table.find? (fun rec => rec.frame == f.frame) with
    | some rec => .resolved rec
    | none =>
      let ahead := (f.frame - u.counter).toNat
      if 1 ≤ ahead && ahead ≤ 8 then .pendingFrame else .unknown

/-! ### Refusals (R125, R126) -/

/-- The frame number a refuse record carries: the resolved frame, else the one named by ABS_FRAME, else
0 (R126, log 16). -/
def Request.refuseFrame (r : Request) : Half :=
  match r.strobe with
  | some c => c.frame
  | none => if r.fields.latest then 0 else r.fields.frame

/-- Slot `k` of the port is freed (R127). -/
def MeshPort.free (q : MeshPort) (k : Fin 4) : MeshPort :=
  { q with slots := q.slots.filter fun r => r.slot != k }

/-- A request in a slot is refused: its reservation becomes the refuse record and the slot is freed
(R125). -/
def MeshPort.refuse (q : MeshPort) (r : Request) (code : RefusalCode) (generation : Byte) : MeshPort :=
  { q.free r.slot with replies := q.replies ++ [⟨code, generation, r.fields.tag, r.refuseFrame⟩] }

/-- The port's head: the oldest occupied slot (R127). -/
def MeshPort.head? (q : MeshPort) : Option Request := q.slots.head?

/-- The request in slot `k` replaced by a function of it. -/
def MeshPort.modify (q : MeshPort) (k : Fin 4) (f : Request → Request) : MeshPort :=
  { q with slots := q.slots.map fun r => if r.slot = k then f r else r }

end Sys2Proof.Machine
end

