-- ==== Sys2Proof/Machine/Store.lean ====
section
/-! DEFINITION. The profile store's own operations: lookup by key, applying a commit or a delete, the pending operation at a release, the profile check, the bind. -/

namespace Sys2Proof.Machine

/-- The lowest-numbered slot whose profile satisfies a test. -/
def findSlot (s : State) (test : Option Profile → Bool) : Option (Fin 16) :=
  slotNumbers.find? fun k => test (s.profile? k)

/-- The occupied slot that holds a key (R23, R45). -/
def State.slotWithKey (s : State) (lensId : Word) (converter : BitVec 2) : Option (Fin 16) :=
  findSlot s fun
    | some p => p.header.lensId == lensId && p.header.converter == converter
    | none => false

/-- A slot's generation (R24). -/
def State.generation (s : State) (k : Fin 16) : Byte := (s.store.slots.get k).generation

def State.setSlot (s : State) (k : Fin 16) (x : Slot) : State :=
  { s with store := { s.store with slots := s.store.slots.set k x } }

/-- The staged content with every set written (R32, R34). -/
def Staged.profile (p : Staged) : Profile := ⟨p.header, p.table.map (·.getD CoeffSet.zero)⟩

/-- The content the staging slot holds, if it holds any (R26). -/
def Staging.content : Staging → Option Staged
  | .closed => none
  | .opened p => some p
  | .committing p => some p

/-- A commit is applied to slot `k` (R34, R36): content and generation, staging CLOSED, no operation
pending, PROFILE_APPLIED. -/
def State.applyCommit (s : State) (k : Fin 16) (p : Staged) : State :=
  let g := s.generation k + 1
  let s := s.setSlot k ⟨g, some p.profile⟩
  let s := { s with store := { s.store with staging := .closed, pendingOp := none } }
  s.post .profileApplied (appliedParam g false k)

/-- A delete is applied to slot `k` (R39, R36): the slot empty, its generation kept, the override cleared
if it names the slot, no operation pending, PROFILE_APPLIED. -/
def State.applyDelete (s : State) (k : Fin 16) : State :=
  let g := s.generation k
  let s := s.setSlot k ⟨g, none⟩
  let s := { s with
    store := { s.store with pendingOp := none }
    lst := { s.lst with override := if s.lst.override = some k then none else s.lst.override } }
  s.post .profileApplied (appliedParam g true k)

/-- The store's part of a release (R28, R156): an operation pending on the bound slot is applied and the
bound slot record is cleared. -/
def State.releaseStore (s : State) : State :=
  let s' :=
    match s.store.pendingOp, s.store.boundSlot with
    | some (.commit k), some b =>
      if k = b then
        match s.store.staging.content with
        | some p => s.applyCommit k p
        | none => s
      else s
    | some (.delete k), some b => if k = b then s.applyDelete k else s
    | _, _ => s
  { s' with store := { s'.store with boundSlot := none } }

/-- The check after an attach or a converter change (R47): NO_PROFILE is posted when neither the exact
nor the base key is held. -/
def State.profileCheck (s : State) : State :=
  match s.lst.record with
  | none => s
  | some r =>
    if (s.slotWithKey r.lensId r.converter).isSome || (s.slotWithKey r.lensId 0).isSome then s
    else s.post .noProfile (r.converter.setWidth 16)

/-- The outcome of a bind to slot `k` (R46). -/
def bindTo (s : State) (choice : BindCase) (k : Fin 16) : Option Binding :=
  (s.profile? k).map fun p => ⟨choice, some k, s.generation k, p.header.lensId, p.header.converter⟩

/-- Case 4 of R45 (R46). -/
def bindNone (s : State) (converter : BitVec 2) : Binding :=
  ⟨.noProfile, none, 0, (s.lst.record.map (·.lensId)).getD 0, converter⟩

/-- The profile for a mesh, by the centre row's converter code: override, exact key, base key, none (R45). -/
def State.bind (s : State) (converter : BitVec 2) : Binding :=
  let exact := s.lst.record.bind fun r => (s.slotWithKey r.lensId converter).bind (bindTo s .exact)
  let base := s.lst.record.bind fun r => (s.slotWithKey r.lensId 0).bind (bindTo s .fallbackBase)
  let named := s.lst.override.bind (bindTo s .overridden)
  ((named.or exact).or base).getD (bindNone s converter)

/-- The target of a commit: the slot that holds the staged key, else the lowest empty slot (R33). -/
def State.commitTarget (s : State) (h : ProfileHeader) : Option (Fin 16) :=
  (s.slotWithKey h.lensId h.converter).or (findSlot s Option.isNone)

end Sys2Proof.Machine
end

