-- ==== Sys2Proof/Machine/Tracker.lean ====
section
/-! DEFINITION. The lens state tracker of chapter 4: samples, attaches, detaches, converter changes, freshness and the choice of source; and POSTED_FRESHNESS_EXPIRY. -/

namespace Sys2Proof.Machine

/-! ### Source and freshness (R80 to R84) -/

/-- The current source becomes another feed: SOURCE_CHANGED is posted and the ports test their coverage
waits against the tracker state that follows (R81, R68, R132). -/
def State.changeSource (s : State) (f : Feed) (automatic : Bool) : State :=
  let s := { s with lst := { s.lst with source := f } }
  (s.post .sourceChanged (sourceParam automatic f)).testCover

/-- Automatic failover, where its conditions hold (R82). -/
def State.failover (s : State) : State :=
  if s.config.autoFailover && s.lst.source == .link && !s.llr.fresh && s.lst.postedFresh then
    s.changeSource .posted true
  else s

/-- A feed's freshness as set, its timer apart. -/
def State.setFresh (s : State) (f : Feed) (b : Bool) : State :=
  match f with
  | .link => { s with llr := { s.llr with fresh := b } }
  | .posted => { s with lst := { s.lst with postedFresh := b } }

/-- A feed becomes stale: LINK_SILENT, and the tracker state that follows (R80). -/
def State.becomeStale (s : State) (f : Feed) : State :=
  ((s.setFresh f false).post .linkSilent (BitVec.ofNat 16 f.code)).testCover

/-- A feed becomes fresh: LINK_RESTORED, and the tracker state that follows (R80). -/
def State.becomeFresh (s : State) (f : Feed) : State :=
  ((s.setFresh f true).post .linkRestored (BitVec.ofNat 16 f.code)).testCover

/-- A POST command that passed its checks restarts the posted timer; a stale feed becomes fresh, with a
failover where R82 applies (R79, R86). -/
def State.touchPosted (s : State) : State :=
  let s := { s with
    lst := { s.lst with postedTimer := some (expiry s.time (millis s.config.postedSilence.toNat)) } }
  if s.lst.postedFresh then s else (s.becomeFresh .posted).failover

/-- A report ignored under R72 or R88 (R78). -/
def State.countIgnored (s : State) : State :=
  { s with lst := { s.lst with ignored := satAdd s.lst.ignored 1 } }

/-! ### Samples (R70, R71) -/

/-- What became of a sample (R86). -/
inductive SampleOutcome where
  | late
  | extended
  | appended
  deriving DecidableEq, Repr

/-- A proposed lens state at an instant (R70). -/
structure Sample where
  time : Word
  focal : Half
  focus : BitVec 12
  converter : BitVec 2
  feed : Feed
  deriving DecidableEq, Repr

/-- A focal value brought into a lens record's range (R70). -/
def clampFocal (lo hi f : Half) : Half :=
  if f.toNat < lo.toNat then lo else if hi.toNat < f.toNat then hi else f

/-- The focal value as the record clamps it. -/
def State.clampedFocal (s : State) (f : Half) : Half :=
  match s.lst.record with
  | some r => clampFocal r.focalMin r.focalMax f
  | none => f

/-- Append an entry, first removing the oldest of a full timeline (R71). -/
def appendEntry (timeline : List Entry) (e : Entry) : List Entry :=
  (if Config.timelineCapacity ≤ timeline.length then timeline.drop 1 else timeline) ++ [e]

/-- The sample reports the newest entry's state (R70, step 3). -/
def Sample.repeats (x : Sample) (e : Entry) : Bool :=
  x.focal == e.focal && x.focus == e.focus && x.converter == e.converter

/-- Steps 3 and 4 of R70, the focal value already clamped. -/
def foldOrAppend (timeline : List Entry) (x : Sample) : List Entry × SampleOutcome :=
  match timeline.getLast? with
  | some e =>
    if x.repeats e then (timeline.dropLast ++ [{ e with tLast := x.time }], .extended)
    else (appendEntry timeline ⟨x.time, x.time, x.focal, x.focus, x.converter, x.feed⟩, .appended)
  | none => (appendEntry timeline ⟨x.time, x.time, x.focal, x.focus, x.converter, x.feed⟩, .appended)

/-- The sample's time is not later than the newest t_last (R70, step 1). -/
def State.isLate (s : State) (t : Word) : Bool :=
  match s.newest? with
  | some e => notLater t e.tLast
  | none => false

/-- Enter a sample into the timeline (R70); with what became of it, and whether its focal was clamped. -/
def State.enterSample (s : State) (x : Sample) : State × SampleOutcome × Bool :=
  if s.isLate x.time then
    ({ s with lst := { s.lst with late := satAdd s.lst.late 1 } }, .late, false)
  else
    let f := s.clampedFocal x.focal
    let clamped := f != x.focal
    let r := foldOrAppend s.lst.timeline { x with focal := f }
    ({ s with
        lst := { s.lst with
          timeline := r.1
          clamps := if clamped then satAdd s.lst.clamps 1 else s.lst.clamps } },
      r.2, clamped)

/-! ### Attach, detach, converter change (R73, R74, R77) -/

/-- The identity and first position an attach carries. -/
structure Attach where
  lensId : Word
  firmware : Half
  focalMin : Half
  focalMax : Half
  converter : BitVec 2
  focal : Half
  focus : BitVec 12
  deriving DecidableEq, Repr

/-- An attach from a feed at a sample time (R73); with whether the initial focal was clamped. -/
def State.attach (s : State) (a : Attach) (t : Word) (feed : Feed) : State × Bool :=
  let epoch := s.lst.epoch + 1
  let f := clampFocal a.focalMin a.focalMax a.focal
  let clamped := f != a.focal
  let s := { s with
    lst := { s.lst with
      epoch := epoch
      override := none
      record := some ⟨a.lensId, a.firmware, a.focalMin, a.focalMax, a.converter, .attached, epoch⟩
      timeline := [⟨t, t, f, a.focus, a.converter, feed⟩]
      clamps := if clamped then satAdd s.lst.clamps 1 else s.lst.clamps } }
  (((s.post .lensAttached epoch).profileCheck).testCover, clamped)

/-- The record of a lens taken off: the presence alone changes (R66). -/
def LensRecord.detached (r : LensRecord) : LensRecord := { r with presence := .detached }

/-- The record with another converter code (R77). -/
def LensRecord.withConverter (c : BitVec 2) (r : LensRecord) : LensRecord := { r with converter := c }

/-- A detach while the record is ATTACHED (R74). -/
def State.detach (s : State) : State :=
  let s := { s with
    lst := { s.lst with record := s.lst.record.map LensRecord.detached } }
  (s.post .lensDetached s.lst.epoch).testCover

/-- Steps 1 to 3 of R77: the record's converter, CONVERTER_CHANGED, the profile check. -/
def State.changeConverter (s : State) (c : BitVec 2) : State :=
  let s := { s with lst := { s.lst with record := s.lst.record.map (LensRecord.withConverter c) } }
  (s.post .converterChanged (c.setWidth 16)).profileCheck

/-- The record's converter code, 0 where there is none. -/
def State.recordConverter (s : State) : BitVec 2 := (s.lst.record.map (·.converter)).getD 0

/-! ### Reports of the link (R72) -/

/-- A report of the link, its fields read and its sample time formed (R58 to R60). -/
inductive Report where
  | attach (a : Attach) (t : Word)
  | position (focal : Half) (focus : BitVec 12) (t : Word)
  | converter (c : BitVec 2) (t : Word)
  | detach (t : Word)
  | heartbeat (t : Word)
  deriving DecidableEq, Repr

/-- A POSITION or HEARTBEAT: the kinds that feed the timeline and the good count (R62, R83). -/
def Report.bearsPosition : Report → Bool
  | .position _ _ _ | .heartbeat _ => true
  | .attach _ _ | .converter _ _ | .detach _ => false

/-- A HEARTBEAT from the current source (R76). -/
def State.heartbeat (s : State) (t : Word) : State :=
  match s.newest? with
  | some e => (s.enterSample ⟨t, e.focal, e.focus, s.recordConverter, .link⟩).1
  | none => s

/-- A CONVERTER report from the current source (R77). -/
def State.converterReport (s : State) (c : BitVec 2) (t : Word) : State :=
  if c = s.recordConverter then s.heartbeat t else (s.changeConverter c).heartbeat t

/-- Automatic return to the link, before the report is applied (R83). -/
def State.autoReturn (s : State) (r : Report) (good : Nat) : State :=
  if s.config.autoReturn && r.bearsPosition && s.lst.source == .posted && good == 3 then
    s.changeSource .link true
  else s

/-- Apply a link report to a tracker whose record is ATTACHED and whose source is the link (R72). -/
def State.applyCurrent (s : State) : Report → State
  | .position f u t => (s.enterSample ⟨t, f, u, s.recordConverter, .link⟩).1
  | .heartbeat t => s.heartbeat t
  | .converter c t => s.converterReport c t
  | .attach _ _ | .detach _ => s

/-- Apply a link report (R72, R83), carrying the consecutive-good count. A detach's sample time has no use
(R74). -/
def State.linkReport (s : State) (r : Report) (good : Nat) : State :=
  match r with
  | .attach a t => (s.attach a t .link).1
  | .detach _ => if s.attached then s.detach else s.countIgnored
  | r =>
    let s := s.autoReturn r good
    if s.attached && s.lst.source == .link then (s.applyCurrent r).testCover else s.countIgnored

/-! ### POSTED_FRESHNESS_EXPIRY -/

/-- The posted freshness timer expires: the posted feed becomes stale (R79, R80). -/
def execPostedFreshnessExpiry (s : State) : Host.Outcome State Fault Refusal :=
  .next <|
    if reached s.time s.lst.postedTimer then
      ({ s with lst := { s.lst with postedTimer := none } }).becomeStale .posted
    else s

end Sys2Proof.Machine
end

