-- ==== Sys2Proof/Machine/Link.lean ====
section
/-! DEFINITION. The lens link receiver of chapter 3: LINK_BYTE, LINK_RUNT, INTER_BYTE_TIMEOUT, LINK_FRESHNESS_EXPIRY. -/

namespace Sys2Proof.Machine

/-! ### Check errors (R54, R55) -/

/-- A check error of whatever cause (R54): the partial frame goes, the counter and the run advance, the
good count is 0, the receiver hunts. LINK_ERRORS is posted when the run reaches 3 (R55). -/
def State.checkError (s : State) : State :=
  let n := satAdd s.llr.checkErrors 1
  let run := s.llr.errorRun + 1
  let s := { s with
    llr := { s.llr with
      rx := .hunt
      frame := []
      byteTimer := none
      checkErrors := n
      errorRun := if run = 3 then 0 else run
      good := 0 } }
  if run = 3 then s.post .linkErrors n else s

/-! ### Intact frames (R56 to R61) -/

/-- The frames missed between the expected number and the one received (R56). -/
def sequenceGap (expected : Option (BitVec 4)) (seq : BitVec 4) : Nat :=
  match expected with
  | none => 0
  | some e => (seq - e).toNat

/-- The sequence check of an intact frame, which also ends the error run and returns the receiver to
IDLE (R51, R55, R56). -/
def State.takeSequence (s : State) (seq : BitVec 4) : State :=
  let gap := sequenceGap s.llr.expected seq
  let s := { s with
    llr := { s.llr with
      rx := .idle
      frame := []
      byteTimer := none
      errorRun := 0
      expected := some (seq + 1)
      gaps := satAdd s.llr.gaps gap } }
  if gap = 0 then s else s.post .linkGap (BitVec.ofNat 16 gap)

/-- A focus value above 4095 becomes 4095 (R58). -/
def clampFocus (v : Half) : BitVec 12 := BitVec.ofNat 12 (min 4095 v.toNat)

/-- Payload bytes `a` to `a + n − 1`. -/
def part (payload : List Byte) (a n : Nat) : List Byte := (payload.drop a).take n

/-- A converter byte gives the code in its low two bits (R58). -/
def converterOf (b : Byte) : BitVec 2 := b.extractLsb' 0 2

/-- The report of a valid frame whose CHECK arrived at `now`; none where the frame is malformed (R57 to R59). -/
def readReport (type len : Nat) (payload : List Byte) (now : Word) : Option Report :=
  let sampleTime (a : Nat) : Word := now - (half (part payload a 2)).setWidth 32
  if type = 1 ∧ len = 15 then
    let lo := half (part payload 6 2)
    let hi := half (part payload 8 2)
    if 1 ≤ lo.toNat ∧ lo.toNat ≤ hi.toNat then
      some (.attach
        { lensId := word (part payload 0 4)
          firmware := half (part payload 4 2)
          focalMin := lo
          focalMax := hi
          converter := converterOf (payload.getD 10 0)
          focal := half (part payload 11 2)
          focus := clampFocus (half (part payload 13 2)) } now)
    else none
  else if type = 2 ∧ len = 6 then
    some (.position (half (part payload 0 2)) (clampFocus (half (part payload 2 2))) (sampleTime 4))
  else if type = 3 ∧ len = 3 then some (.converter (converterOf (payload.getD 0 0)) (sampleTime 1))
  else if type = 4 ∧ len = 2 then some (.detach (sampleTime 0))
  else if type = 5 ∧ len = 2 then some (.heartbeat (sampleTime 0))
  else none

/-- The good count after a valid frame (R62). -/
def goodAfter (good : Nat) (r : Report) (gap : Nat) : Nat :=
  if r.bearsPosition then (if gap = 0 then min 3 (good + 1) else 1) else good

/-- A malformed frame is counted and discarded (R57). -/
def State.malformedFrame (s : State) : State :=
  { s with llr := { s.llr with malformed := satAdd s.llr.malformed 1, good := 0 } }

/-- A valid frame: the good count, the freshness timer, the change to fresh, the report (R60 to R62). -/
def State.validFrame (s : State) (r : Report) (gap : Nat) : State :=
  let good := goodAfter s.llr.good r gap
  let wasFresh := s.llr.fresh
  let s := { s with
    llr := { s.llr with
      good := good
      freshTimer := some (expiry s.time (millis s.config.linkSilence.toNat)) } }
  let s := if wasFresh then s else s.becomeFresh .link
  s.linkReport r good

/-- A frame that passed its check sum: `bytes` are those after SYNC, CHECK included (R54, R56, R57). -/
def State.intactFrame (s : State) (bytes : List Byte) : State :=
  let head := bytes.getD 0 0
  let len := (bytes.getD 1 0).toNat
  let seq := head.extractLsb' 0 4
  let gap := sequenceGap s.llr.expected seq
  let s := s.takeSequence seq
  match readReport (head.extractLsb' 4 4).toNat len (bytes.drop 2) s.time with
  | none => s.malformedFrame
  | some r => s.validFrame r gap

/-- The sum of the bytes is 0 modulo 256 (R54). -/
def sumIsZero (bytes : List Byte) : Bool := bytes.foldl (· + ·) 0 == 0

/-! ### Bytes (R51 to R53) -/

/-- SYNC opens a frame (R51, R53). -/
def State.openFrame (s : State) : State :=
  { s with
    llr := { s.llr with rx := .inFrame, frame := [], byteTimer := some (expiry s.time Config.interByteLimit) } }

/-- A byte of a frame that is not its last (R51, R53). -/
def State.storeByte (s : State) (b : Byte) : State :=
  { s with
    llr := { s.llr with
      frame := s.llr.frame ++ [b]
      byteTimer := some (expiry s.time Config.interByteLimit) } }

/-- The byte at hand is the CHECK byte of the frame held (R52). -/
def isCheckByte (frame : List Byte) : Bool :=
  decide (2 ≤ frame.length) && decide (frame.length = 2 + (frame.getD 1 0).toNat)

/-- A byte inside a frame (R51, R52, R54). -/
def State.byteInFrame (s : State) (b : Byte) : State :=
  if isCheckByte s.llr.frame then
    let bytes := s.llr.frame ++ [b]
    if sumIsZero bytes then s.intactFrame bytes else s.checkError
  else if s.llr.frame.length = 1 ∧ 15 < b.toNat then s.checkError
  else s.storeByte b

/-- The SYNC byte (section 3.2). -/
def syncByte : Byte := 0xA7

/-- A byte arrives (R51); discarded during INIT_BUSY (R63). -/
def State.receiveByte (s : State) (b : Byte) : State :=
  if s.cp.initBusy then s
  else
    match s.llr.rx with
    | .hunt => if b = syncByte then s.openFrame else s
    | .idle => if b = syncByte then s.openFrame else s.checkError
    | .inFrame => s.byteInFrame b

/-- The bit count returns to 0 after a byte's eighth bit and after a runt (R50). -/
def State.clearBits (s : State) : State := { s with llr := { s.llr with bitCount := 0 } }

/-- A runt (R50, R51); discarded during INIT_BUSY (R63). -/
def State.receiveRunt (s : State) : State :=
  if s.cp.initBusy then s
  else
    match s.llr.rx with
    | .hunt => s
    | .idle | .inFrame => s.checkError

/-! ### The commands -/

/-- LINK_BYTE (R51). -/
def execLinkByte (b : Byte) (s : State) : Host.Outcome State Fault Refusal :=
  .next (s.clearBits.receiveByte b)

/-- LINK_RUNT (R50, R51). A runt of 0 or more than 7 bits names no event (log 22). -/
def execLinkRunt (bits : Nat) (s : State) : Host.Outcome State Fault Refusal :=
  if (Instr.linkRunt bits).wellFormed then .next s.clearBits.receiveRunt else .refused .illFormed

/-- INTER_BYTE_TIMEOUT: the timer has expired inside a frame (R53). -/
def execInterByteTimeout (s : State) : Host.Outcome State Fault Refusal :=
  .next (if s.llr.rx = .inFrame ∧ reached s.time s.llr.byteTimer then s.checkError else s)

/-- LINK_FRESHNESS_EXPIRY: the link becomes stale, the good count returns to 0, the tracker is told
(R61, R80) and may fail over (R82). -/
def execLinkFreshnessExpiry (s : State) : Host.Outcome State Fault Refusal :=
  .next <|
    if reached s.time s.llr.freshTimer then
      (({ s with llr := { s.llr with freshTimer := none, good := 0 } }).becomeStale .link).failover
    else s

end Sys2Proof.Machine
end

