-- ==== Sys2Proof/Machine/Strobe.lean ====
section
/-! DEFINITION. The timebase and strobe unit of chapter 5, and what a strobe does at its port (R130, R134, R135): STROBE, LOSS_TIMER_EXPIRY. -/

namespace Sys2Proof.Machine

/-! ### The lock machine (R101, R102) -/

/-- A period in range: 1,000 to 2,000,000 µs (R101). -/
def periodInRange (p : Int) : Bool := decide (1000 ≤ p) && decide (p ≤ 2000000)

/-- The run after a period in UNLOCKED (R101). -/
def Run.enter (r : Run) (p : Int) : Run :=
  if !periodInRange p then Run.empty
  else if r.count = 0 then ⟨p.toNat, 1, p.toNat⟩
  else if (p - r.first).natAbs * 64 ≤ r.first then ⟨r.first, r.count + 1, r.sum + p.toNat⟩
  else ⟨p.toNat, 1, p.toNat⟩

/-- A period deviates from the locked period (R102). -/
def deviates (period : Nat) (p : Int) : Bool := decide (period < (p - period).natAbs * 8)

/-- What the lock machine reports of a strobe. -/
inductive LockReport where
  | nothing
  | locked (period : Nat)
  | lost
  deriving DecidableEq, Repr

/-- The lock machine at a strobe at `now` whose period is `p`, if it has one (R97, R101, R102). -/
def Lock.step (l : Lock) (p : Option Int) (now : Word) : Lock × LockReport :=
  match p with
  | none => (l, .nothing)
  | some p =>
    match l with
    | .unlocked r =>
      let r := r.enter p
      if r.count = 8 then
        let period := r.sum / 8
        (.locked period (expiry now (2 * period)), .locked period)
      else (.unlocked r, .nothing)
    | .locked period _ =>
      if deviates period p then (.unlocked (Run.empty.enter p), .lost)
      else (.locked period (expiry now (2 * period)), .nothing)

/-- Enter a record into a table of at most eight (R99). -/
def enterRecord (table : List StrobeRecord) (rec : StrobeRecord) : List StrobeRecord :=
  (if Config.tableCapacity ≤ table.length then table.drop 1 else table) ++ [rec]

/-- The strobe unit after a strobe at `now`, the new record, and the lock machine's report (R97, steps 1 to 4). -/
def StrobeUnit.capture (u : StrobeUnit) (now : Word) : StrobeUnit × StrobeRecord × LockReport :=
  let l := u.lock.step (u.previous.map fun t => timeDiff t now) now
  let new : StrobeRecord := ⟨u.counter + 1, now, l.2 == .lost⟩
  (⟨u.counter + 1, enterRecord u.table new, some now, l.1⟩, new, l.2)

/-- The event of the lock machine's report (R101, R102, R183). -/
def State.postLock (s : State) (p : Port) : LockReport → State
  | .nothing => s
  | .locked period => s.post .strobeLocked (lockedParam p period)
  | .lost => s.post .strobeLost (portParam p 0)

/-! ### The port at a strobe (R130, R134, R135) -/

/-- Requests in PENDING_FRAME for the new frame take its record (R130). -/
def State.resolvePending (s : State) (p : Port) (rec : StrobeRecord) : State :=
  let q := s.port p
  s.setPort p { q with
    slots := q.slots.map fun r =>
      if r.state = .pendingFrame ∧ r.fields.frame = rec.frame then resolveFrame s rec r else r }

/-- A strobe request in a free slot `k`, the youngest of the port (R134). -/
def State.makeStrobeRequest (s : State) (p : Port) (rec : StrobeRecord) (k : Fin 4) : State :=
  let q := s.port p
  let r := newRequest k q.config.template (expiry s.time (millis q.config.waitLimit.toNat))
  s.setPort p { q with slots := q.slots ++ [resolveFrame s rec r] }

/-- A strobe that makes no request: the dropped count and STROBE_DROPPED (R135). -/
def State.dropStrobe (s : State) (p : Port) : State :=
  let q := s.port p
  let n := satAdd q.dropped 1
  (s.setPort p { q with dropped := n }).post .strobeDropped (portParam p (n.extractLsb' 0 8))

/-- The oldest request not IN_ENGINE (R135). -/
def MeshPort.oldestWaiting (q : MeshPort) : Option Request :=
  q.slots.find? fun r => r.state != .inEngine

/-- The strobe request of R134, as the reply queue, the slots and the full policy allow (R135). -/
def State.strobeRequest (s : State) (p : Port) (rec : StrobeRecord) : State :=
  let q := s.port p
  if !q.freePlace then s.dropStrobe p
  else
    match freeSlot q.slots with
    | some k => s.makeStrobeRequest p rec k
    | none =>
      match q.config.policy, q.oldestWaiting with
      | .replaceOldest, some r => (s.setPort p (q.refuse r .superseded 0)).makeStrobeRequest p rec r.slot
      | _, _ => s.dropStrobe p

/-- STROBE_ONCE becomes COMMAND (R134). -/
def TriggerMode.afterStrobe : TriggerMode → TriggerMode
  | .command => .command
  | .strobe => .strobe
  | .strobeOnce => .command

/-- What the port does with a new strobe record (R103, R130, R134). -/
def State.portStrobe (s : State) (p : Port) (rec : StrobeRecord) : State :=
  let s := s.resolvePending p rec
  let c := (s.port p).config
  if c.enabled && c.mode != .command then
    let s := s.strobeRequest p rec
    let q := s.port p
    s.setPort p { q with config := { q.config with mode := q.config.mode.afterStrobe } }
  else s

/-! ### The commands -/

/-- STROBE: a rising edge on the port's frame strobe (R97); not captured during INIT_BUSY (R104). -/
def execStrobe (p : Port) (s : State) : Host.Outcome State Fault Refusal :=
  .next <|
    if s.cp.initBusy then s
    else
      let c := (s.tsu.get p).capture s.time
      let s := { s with tsu := s.tsu.set p c.1 }
      (s.postLock p c.2.2).portStrobe p c.2.1

/-- The loss timer of a port has expired (R102). -/
def State.lossDue (s : State) (p : Port) : Bool :=
  match (s.tsu.get p).lock with
  | .locked _ t => reached s.time (some t)
  | .unlocked _ => false

/-- LOSS_TIMER_EXPIRY: the machine becomes UNLOCKED with an empty run, STROBE_LOST is posted (R102). -/
def execLossTimerExpiry (p : Port) (s : State) : Host.Outcome State Fault Refusal :=
  .next <|
    if s.lossDue p then
      let u := { s.tsu.get p with lock := Lock.unlocked Run.empty }
      ({ s with tsu := s.tsu.set p u }).post .strobeLost (portParam p 0)
    else s

end Sys2Proof.Machine
end

