-- ==== Sys2Proof/Machine/Ports.lean ====
section
/-! DEFINITION. The request channel, the waits and the output stream of a mesh port (chapter 7): REQUEST_WORD_TAKEN, REQUEST_RECORD, WAIT_TIMER_EXPIRY, WORD_TAKEN, REFUSE_RECORD_MOVE. -/

namespace Sys2Proof.Machine

/-! ### Judging a record (R124) -/

/-- The first check of R124 that a record fails, if any. -/
def State.judge (s : State) (p : Port) (f : RequestFields) : Option RefusalCode :=
  let q := s.port p
  if !q.config.enabled then some .portDisabled
  else if q.config.mode != .command then some .mode
  else if !windowFits f s.config then some .badWindow
  else if !gridFits f.nc f.nr then some .badGrid
  else if (freeSlot q.slots).isNone then some .queueFull
  else if lookupFrame (s.tsu.get p) f = .unknown then some .frameUnknown
  else none

/-- A record refused at its arrival: the refuse record takes the place held for the record (R124, R126).
No frame has been looked up, so a LATEST request's frame number is 0 (log 16). -/
def State.refuseRecord (s : State) (p : Port) (f : RequestFields) (code : RefusalCode) : State :=
  let q := s.port p
  s.setPort p { q with
    gathered := []
    replies := q.replies ++ [⟨code, 0, f.tag, if f.latest then 0 else f.frame⟩] }

/-- A record accepted into slot `k`, the youngest of the port (R124, R128, R131). -/
def State.acceptRecord (s : State) (p : Port) (f : RequestFields) (k : Fin 4) : State :=
  let q := s.port p
  let r := newRequest k f (expiry s.time (millis q.config.waitLimit.toNat))
  let r :=
    match lookupFrame (s.tsu.get p) f with
    | .resolved rec => resolveFrame s rec r
    | _ => r
  s.setPort p { q with gathered := [], slots := q.slots ++ [r] }

/-- A request record arrives: judged, then accepted or refused (R124). -/
def State.judgeRecord (s : State) (p : Port) (f : RequestFields) : State :=
  match s.judge p f, freeSlot (s.port p).slots with
  | none, some k => s.acceptRecord p f k
  | none, none => s.refuseRecord p f .queueFull
  | some code, _ => s.refuseRecord p f code

/-! ### The commands -/

/-- REQUEST_WORD_TAKEN: a word before a record's eighth passes while ready is raised (R122). The first
word of a record holds a place of the reply queue while `gathered` is not empty. -/
def execRequestWordTaken (p : Port) (w : Word) (s : State) : Host.Outcome State Fault Refusal :=
  .next <|
    let q := s.port p
    if s.requestReady p && decide (q.gathered.length < 7) then
      s.setPort p { q with gathered := q.gathered ++ [w] }
    else s

/-- REQUEST_RECORD: the eighth word arrives (R122, R124). -/
def execRequestRecord (p : Port) (w : Word) (s : State) : Host.Outcome State Fault Refusal :=
  .next <|
    let q := s.port p
    if s.requestReady p && q.gathered.length == 7 then
      s.judgeRecord p (RequestFields.ofWords (q.gathered ++ [w]))
    else s

/-- A request's wait timer expires: FRAME_TIMEOUT, or READY with COVER_INCOMPLETE (R131). -/
def MeshPort.expireWait (q : MeshPort) (r : Request) : MeshPort :=
  match r.state with
  | .pendingFrame => q.refuse r .frameTimeout 0
  | .pendingCover => q.modify r.slot fun r => r.makeReady true
  | .ready | .inEngine => q

/-- The request in slot `k` of the port. -/
def MeshPort.request? (q : MeshPort) (k : Fin 4) : Option Request := q.slots.find? fun r => r.slot == k

/-- WAIT_TIMER_EXPIRY (R131). -/
def execWaitTimerExpiry (p : Port) (k : Fin 4) (s : State) : Host.Outcome State Fault Refusal :=
  .next <|
    match (s.port p).request? k with
    | some r => if reached s.time r.waitTimer then s.setPort p ((s.port p).expireWait r) else s
    | none => s

/-- WORD_TAKEN: the image processor takes the oldest word of the FIFO, if there is one (R138). -/
def execWordTaken (p : Port) (s : State) : Host.Outcome State Fault Refusal :=
  .next (s.setPort p { s.port p with fifo := (s.port p).fifo.drop 1 })

/-- The oldest refuse record may move: no mesh of the port in progress, and at most 1021 words after
its two (R139). -/
def State.mayMove (s : State) (p : Port) : Bool :=
  !s.inProgress p && !(s.port p).replies.isEmpty && decide ((s.port p).fifo.length + 2 ≤ Config.fifoLimit)

/-- REFUSE_RECORD_MOVE: the oldest refuse record moves whole into the FIFO (R139). -/
def execRefuseRecordMove (p : Port) (s : State) : Host.Outcome State Fault Refusal :=
  .next <|
    let q := s.port p
    match q.replies with
    | r :: rs =>
      if s.mayMove p then s.setPort p { q with replies := rs, fifo := q.fifo ++ r.toWords } else s
    | [] => s

end Sys2Proof.Machine
end

