-- ==== Sys2Proof/Machine/Engine.lean ====
section
/-! DEFINITION. The mesh engine of chapter 8: grant, bind, units, rows, trailer, release, abandonment: GRANT, UNIT_PLACE, STALL_EXPIRY. -/

namespace Sys2Proof.Machine

/-! ### The arbiter (R145 to R147) -/

/-- The port offers its head: READY, and its FIFO holds no more than 1021 words (R145). -/
def State.offers (s : State) (p : Port) : Bool :=
  match (s.port p).head? with
  | some r => r.state == .ready && decide ((s.port p).fifo.length ≤ Config.fifoLimit)
  | none => false

/-- The arbiter's choice where both ports offer (R146). -/
def chooseBoth (priority : ArbiterPriority) (limit : Nat) (last : Port) (count : Nat) : Port :=
  let favour (p : Port) : Port := if last ≠ p ∨ count < limit then p else portOther p
  match priority with
  | .none => portOther last
  | .mp0 => favour .mp0
  | .mp1 => favour .mp1

/-- The port granted at this moment, where it is a grant point (R145, R146). -/
def State.grantPort (s : State) : Option Port :=
  if s.me.mesh.isSome || s.me.runState == .hold then none
  else
    match s.offers .mp0, s.offers .mp1 with
    | true, true => some (chooseBoth s.config.priority s.config.consecutiveLimit s.me.lastGranted s.me.consecutive)
    | true, false => some .mp0
    | false, true => some .mp1
    | false, false => none

/-- The engine's arbiter memory and run state after a grant of port `p` (R144, R147). -/
def Engine.granted (e : Engine) (p : Port) : Engine :=
  { e with
    runState := if e.runState = .step then .hold else e.runState
    lastGranted := p
    consecutive := if e.lastGranted = p then min 15 (e.consecutive + 1) else 1 }

/-! ### Release (R156) -/

/-- The release of the mesh in computation, its slot and its port given (R156, R25, R28): the slot freed,
the pending operation on the bound slot applied, the bound slot record cleared, the engine idle. -/
def State.release (s : State) (p : Port) (k : Fin 4) : State :=
  let s := (s.setPort p ((s.port p).free k)).releaseStore
  { s with me := { s.me with mesh := none } }

/-! ### Rows (R153, R154, R20, R21) -/

/-- The profile a binding names, where it binds a slot that holds one (R46). -/
def State.boundProfile (s : State) (b : Binding) : Option Profile := b.slot.bind s.profile?

/-- An identity row's unit (R20). -/
def identityUnit (m : Mesh) (t : Word) (lens : LensState) (flags : RowFlags) : MeshUnit where
  words := rowHeader flags m.cursor t lens ++ identityWords m.request
  isRow := true
  saturated := 0
  flagged := flags.any

/-- A computed row's unit (R21, R118). -/
def computedUnit (m : Mesh) (p : Profile) (t : Word) (r : Resolved) : MeshUnit :=
  let c := rowCoeffs p r.lens.focal.toNat r.lens.focus.toNat
  let nodes := evalRow m.request (p.header.rn16.toNat : Int) c.1 (m.centre.getD (0, 0)) m.cursor
  let flags := { r.flags with
    outsideGrid := c.2
    converterMismatch := r.lens.converter != m.binding.converter
    saturated := decide (0 < nodes.2) }
  { words := rowHeader flags m.cursor t r.lens ++ nodes.1
    isRow := true
    saturated := nodes.2
    flagged := flags.any }

/-- The strobe time a request's rows are counted from (R106). -/
def Request.strobeTime (r : Request) : Word := (r.strobe.map (·.time)).getD 0

/-- The unit of the row at the cursor, decided at the moment it is reached (R153). -/
def State.rowUnit (s : State) (m : Mesh) : MeshUnit :=
  let t := rowTime m.request.fields s.config.height m.request.strobeTime m.cursor
  if m.epochChanged then identityUnit m t LensState.zero { epochChanged := true }
  else
    let r := resolve s.lst.timeline s.config.holdLimit t
    match s.boundProfile m.binding with
    | none => identityUnit m t r.lens { r.flags with noProfile := true }
    | some p => computedUnit m p t r

/-- A unit fits the FIFO of a port: no more than 1021 words after it (R152). -/
def State.fits (s : State) (p : Port) (u : MeshUnit) : Bool :=
  decide ((s.port p).fifo.length + u.words.length ≤ Config.fifoLimit)

/-- The engine holds a formed unit; where it does not yet fit, the wait begins and the stall timer starts
(R157). -/
def State.holdUnit (s : State) (m : Mesh) (u : MeshUnit) : State :=
  let timer := if s.fits m.port u then none else some (expiry s.time (millis m.stallLimit.toNat))
  { s with me := { s.me with mesh := some { m with unit := u, stallTimer := timer } } }

/-- The engine reaches the row at the cursor: epoch check, then the row's unit (R153, R154). -/
def State.reachRow (s : State) (m : Mesh) : State :=
  let m := { m with epochChanged := m.epochChanged || s.lst.epoch != m.epoch }
  s.holdUnit m (s.rowUnit m)

/-! ### Placing units (R152, R155) -/

/-- Words enter a port's FIFO. -/
def State.push (s : State) (p : Port) (ws : List Word) : State :=
  s.setPort p { s.port p with fifo := (s.port p).fifo ++ ws }

/-- The mesh ends with a trailer, placed at once, and is released (R155, R156). MESH_ABANDONED is posted
before the release of an abandoned mesh (R158). -/
def State.closeMesh (s : State) (m : Mesh) (status : MeshStatus) : State :=
  let s := s.push m.port (trailer m status)
  let s := if status = .abandoned then
      s.post .meshAbandoned (portParam m.port (m.request.fields.tag.extractLsb' 0 8)) else s
  s.release m.port m.request.slot

/-- The mesh once its unit has been placed: for a row, the counts and the cursor advance (R153, R155). -/
def Mesh.placed (m : Mesh) : Mesh :=
  if m.unit.isRow then
    { m with
      cursor := m.cursor + 1
      nodes := m.nodes + m.request.nc
      saturated := m.saturated + m.unit.saturated
      flagged := m.flagged + (if m.unit.flagged then 1 else 0)
      stallTimer := none }
  else { m with stallTimer := none }

/-- The unit held is placed whole; then the next row is reached, or after the last row the trailer closes
the mesh (R152, R153, R155). -/
def State.placeUnit (s : State) (m : Mesh) : State :=
  let s := s.push m.port m.unit.words
  let m := m.placed
  if m.cursor < m.request.nr then s.reachRow m
  else s.closeMesh m (if m.epochChanged then .lensChanged else .complete)

/-! ### From grant to header (R149 to R151) -/

/-- The converter code at the centre row, with the timeline as it stands (R109). -/
def State.centreConverter (s : State) (r : Request) : BitVec 2 :=
  (resolve s.lst.timeline s.config.holdLimit
    (rowTime r.fields s.config.height r.strobeTime (centreRow r.nr))).lens.converter

/-- The array centre from the bound profile's offsets (R2); none where no profile is bound. -/
def State.meshCentre (s : State) (b : Binding) : Option (Int × Int) :=
  (s.boundProfile b).map fun p => (centreOf s.config.width p.header.ox, centreOf s.config.height p.header.oy)

/-- The refusal the options of a request call for after the bind, with the generation it carries (R150). -/
def bindRefusal (f : RequestFields) (b : Binding) : Option (RefusalCode × Byte) :=
  match b.slot with
  | some _ => if f.strictGen && f.expectedGen != b.generation then some (.genMismatch, b.generation) else none
  | none => if f.requireProfile then some (.noProfile, 0) else none

/-- The mesh as the bind leaves it, its header formed (R149, R151). -/
def newMesh (s : State) (p : Port) (r : Request) (b : Binding) : Mesh where
  port := p
  request := { r with state := .inEngine }
  stallLimit := (s.port p).config.stallLimit
  epoch := s.lst.epoch
  binding := b
  centre := s.meshCentre b
  cursor := 0
  epochChanged := false
  nodes := 0
  saturated := 0
  flagged := 0
  unit := ⟨meshHeader r s.lst.epoch b, false, 0, false⟩
  stallTimer := none

/-- The grant of port `p`'s head `r`: arbiter, bind, option checks; then a refusal at the bind with the
release, or the header, placed at once where it fits (R149 to R152). -/
def State.grantHead (s : State) (p : Port) (r : Request) : State :=
  let b := s.bind (s.centreConverter r)
  let m := newMesh s p r b
  let s := { s with
    me := s.me.granted p
    store := { s.store with boundSlot := b.slot } }
  match bindRefusal r.fields b with
  | some (code, g) => (s.setPort p ((s.port p).refuse r code g)).release p r.slot
  | none =>
    let s := s.setPort p ((s.port p).modify r.slot fun r => { r with state := .inEngine })
    if s.fits p m.unit then s.placeUnit m else s.holdUnit m m.unit

/-! ### The commands -/

/-- GRANT: at a grant point the arbiter grants a head (R145, R149). -/
def execGrant (s : State) : Host.Outcome State Fault Refusal :=
  .next <|
    match s.grantPort with
    | some p =>
      match (s.port p).head? with
      | some r => s.grantHead p r
      | none => s
    | none => s

/-- UNIT_PLACE: the unit held is placed once the FIFO has room for it (R152). -/
def execUnitPlace (s : State) : Host.Outcome State Fault Refusal :=
  .next <|
    match s.me.mesh with
    | some m => if s.fits m.port m.unit then s.placeUnit m else s
    | none => s

/-- STALL_EXPIRY: the mesh is abandoned (R158). A unit for which a word taken has made room is placed, and its
timer does not expire (R157). -/
def execStallExpiry (s : State) : Host.Outcome State Fault Refusal :=
  .next <|
    match s.me.mesh with
    | some m => if reached s.time m.stallTimer && !s.fits m.port m.unit then s.closeMesh m .abandoned else s
    | none => s

end Sys2Proof.Machine
end

