-- ==== Sys2Proof/Machine/Reset.lean ====
section
/-! DEFINITION. The resets of the part: POWER_ON, PIN_RESET, INIT_BUSY_CLEAR, and the CORE and PORT n resets that commands take. -/

namespace Sys2Proof.Machine

/-- A POWER_ON or PIN reset: every block as its chapter gives it, each FIFO opened by a RESYNC with the
cause and time 0 (R140, R141, R168, R194); the waiting commands, their phases and the free-value counter are the model's own. -/
def State.wholeReset (s : State) (cause : ResetCause) : State :=
  { State.afterReset cause (resync cause.code 0) with
    freeIndex := s.freeIndex
    resetPhases := s.resetPhases
    pending := s.pending }

/-- The part held in a POWER_ON or PIN reset (R168): every block reset, each FIFO still empty, the record of
the cause not yet written. INIT_BUSY stands set from here on (log 6). -/
def State.heldReset (s : State) (hold : Hold) : State :=
  let r := State.afterReset s.cp.resetCause []
  { r with
    cp := { r.cp with hold := hold }
    freeIndex := s.freeIndex
    resetPhases := s.resetPhases
    pending := s.pending }

/-- How far the reset command now taken goes, and the state from which it does (log 6). -/
def State.takePhase (s : State) : ResetPhase × State :=
  (s.resetPhases.headD .whole, { s with resetPhases := s.resetPhases.tail })

/-- POWER_ON: power is applied, the supplies become good with RSTn released, or both (R168, log 6). -/
def execPowerOn (s : State) : Host.Outcome State Fault Refusal :=
  let (phase, s) := s.takePhase
  .next <|
    match phase with
    | .whole => s.wholeReset .powerOn
    | .start => s.heldReset .powerOn
    | .finish => if s.cp.hold = .powerOn then s.wholeReset .powerOn else s

/-- PIN_RESET: RSTn is asserted, released, or both (R168, log 6). While the part is held in a POWER_ON reset,
RSTn belongs to that reset. -/
def execPinReset (s : State) : Host.Outcome State Fault Refusal :=
  let (phase, s) := s.takePhase
  .next <|
    if s.cp.hold = .powerOn then s
    else
      match phase with
      | .whole => s.wholeReset .pin
      | .start => s.heldReset .pin
      | .finish => if s.cp.hold = .pin then s.wholeReset .pin else s

/-- What the part takes unless it is held in a POWER_ON or PIN reset (R168). -/
def State.unlessHeld (s t : State) : State :=
  if s.cp.hold = .released then t else s

/-- INIT_BUSY_CLEAR: the store has cleared itself, INIT_BUSY clears and RESET_DONE is posted (R48, R167,
R190). The free value that sets the instant is used up (log 5). -/
def execInitBusyClear (s : State) : Host.Outcome State Fault Refusal :=
  .next <| s.unlessHeld <|
    if s.cp.initBusy then
      let s := { s with
        cp := { s.cp with initBusy := false }
        store := ProfileStore.cleared
        freeIndex := s.freeIndex + 1 }
      s.post .resetDone (BitVec.ofNat 16 s.cp.resetCause.code)
    else s

/-! ### CORE (R179) -/

/-- A latched read after a CORE reset: the transaction goes on, but the event it returned is gone (R179,
R185). -/
def ReadLatch.afterCore (l : ReadLatch) : ReadLatch := { l with live := false }

/-- The store after a CORE reset: the slots are kept, the rest is dropped (R49). -/
def ProfileStore.core (p : ProfileStore) : ProfileStore :=
  { p with staging := .closed, pendingOp := none, boundSlot := none }

/-- The control port after a CORE reset, before the response is written (R179, R180). -/
def ControlPort.core (c : ControlPort) : ControlPort :=
  { c with
    resetCause := .core
    select := .response
    offset := 0
    latch := c.latch.map ReadLatch.afterCore }

/-- A CORE reset of every block at one moment (R179), with RESET_DONE posted (R190). -/
def State.coreReset (s : State) : State :=
  let s := { s with
    cp := s.cp.core
    config := ConfigSet.reset
    eu := EventUnit.reset
    llr := LinkReceiver.reset
    lst := Tracker.reset
    tsu := ⟨StrobeUnit.reset, StrobeUnit.reset⟩
    ports := ⟨MeshPort.reset (resync ResetCause.core.code s.time), MeshPort.reset (resync ResetCause.core.code s.time)⟩
    store := s.store.core
    me := Engine.reset }
  s.post .resetDone (BitVec.ofNat 16 ResetCause.core.code)

/-! ### PORT n (R137) -/

/-- The cause code PORT of a RESYNC (R194). -/
def portCause : Nat := 3

/-- A port after its reset: the configuration but the trigger mode is kept (R137). -/
def MeshPort.portReset (q : MeshPort) (time : Word) : MeshPort where
  config := { q.config with mode := .command }
  gathered := []
  slots := []
  replies := []
  fifo := resync portCause time
  dropped := 0

/-- The mesh of a port in progress is stopped and released, without a trailer (R137 step 2, R159). -/
def State.stopMesh (s : State) (p : Port) : State :=
  match s.me.mesh with
  | some m => if m.port = p then s.release p m.request.slot else s
  | none => s

/-- A PORT n reset (R137, R104). -/
def State.portReset (s : State) (p : Port) : State :=
  let s := s.stopMesh p
  { (s.setPort p ((s.port p).portReset s.time)) with tsu := s.tsu.set p StrobeUnit.reset }

end Sys2Proof.Machine
end

