-- ==== Sys2Proof/Machine/ControlPort.lean ====
section
/-! DEFINITION. The direct items and the mailboxes of chapters 9 and 10: EVENT_POP, SUMMARY, MAILBOX_FLAGS, MAILBOX_SELECT, MAILBOX_DATA_WRITE, MAILBOX_DATA_READ, ITEM_WRITE_IGNORED; the framing of mailbox commands and BAD_COMMAND. -/

namespace Sys2Proof.Machine

/-! ### Reads with an effect (R163, R185, R187) -/

def EffectItem.address : EffectItem → BitVec 7
  | .eventPop => 0x03#7
  | .summary => 0x05#7

/-- The address byte of a read: the value is taken (R163). -/
def State.readAddress (s : State) (i : EffectItem) : State :=
  let v := s.readItem i.address
  { s with cp := { s.cp with latch := some ⟨i, v, !s.eu.queue.isEmpty⟩, miso := bytes32 v } }

/-- The oldest event is removed and its time latched into EVENT_TIME (R185, R186). -/
def EventUnit.pop (u : EventUnit) : EventUnit :=
  match u.queue with
  | [] => u
  | e :: es => { u with queue := es, eventTime := e.time }

/-- Each bit and flag that the value returned set is cleared (R187). -/
def EventUnit.clearReturned (u : EventUnit) (value : Word) : EventUnit :=
  { u with
    summary := u.summary &&& ~~~(value.extractLsb' 0 17)
    overflow := u.overflow && !value.getLsbD 31
    accessViolation := u.accessViolation && !value.getLsbD 30 }

/-- The effect a read of an item has on the value it returned (R185, R187). -/
def EventUnit.readEffect (u : EventUnit) (l : ReadLatch) : EventUnit :=
  match l.item with
  | .eventPop => if l.live then u.pop else u
  | .summary => u.clearReturned l.value

/-- The fourth data byte has been clocked out: the effect is applied and the transaction is over (R163). -/
def State.readFinish (s : State) (i : EffectItem) : State :=
  match s.cp.latch with
  | some l =>
    if l.item = i then { s with eu := s.eu.readEffect l, cp := { s.cp with latch := none } } else s
  | none => s

/-- The transaction ends before its fourth data byte (R163). -/
def State.readCut (s : State) : State := { s with cp := { s.cp with latch := none } }

/-- A read transaction as far as it goes. -/
def State.readTransaction (s : State) (i : EffectItem) : ReadPhase → State
  | .whole => (s.readAddress i).readFinish i
  | .address => s.readAddress i
  | .finish => s.readFinish i
  | .cut => s.readCut

/-- EVENT_POP (R185). -/
def execEventPop (phase : ReadPhase) (s : State) : Host.Outcome State Fault Refusal :=
  .next (s.unlessHeld (s.readTransaction .eventPop phase))

/-- SUMMARY (R187). -/
def execSummary (phase : ReadPhase) (s : State) : Host.Outcome State Fault Refusal :=
  .next (s.unlessHeld (s.readTransaction .summary phase))

/-! ### Mailbox items (R169 to R171) -/

/-- MAILBOX_FLAGS: a flag written 1 becomes 1; a flag written 0 stays (R170). -/
def execMailboxFlags (value : Word) (s : State) : Host.Outcome State Fault Refusal :=
  .next <| s.unlessHeld { s with
    cp := { s.cp with
      cmdFlag := s.cp.cmdFlag || value.getLsbD 0
      rspFlag := s.cp.rspFlag || value.getLsbD 1 } }

/-- MAILBOX_SELECT: the mailbox and the offset, an offset above 256 taken as 256 (R169, R195). -/
def execMailboxSelect (value : Word) (s : State) : Host.Outcome State Fault Refusal :=
  .next <| s.unlessHeld { s with
    cp := { s.cp with
      select := if value.getLsbD 31 then .response else .command
      offset := min Config.mailboxSize (value.extractLsb' 0 9).toNat } }

/-- The part owns the selected mailbox (R170). -/
def ControlPort.partOwns (c : ControlPort) : Bool :=
  match c.select with
  | .command => c.cmdFlag
  | .response => c.rspFlag

/-- The offset after a data byte: it stops at 256 (R169). -/
def ControlPort.advance (c : ControlPort) : ControlPort :=
  { c with offset := min Config.mailboxSize (c.offset + 1) }

/-- A byte stored in the selected mailbox at the offset; in the command mailbox it may raise the written
extent (R169, R172). -/
def ControlPort.storeData (c : ControlPort) (b : Byte) : ControlPort :=
  match c.select with
  | .command =>
    { c with
      cmdBox := c.cmdBox.write c.offset b
      extent := if c.offset < Config.mailboxSize then max c.extent (c.offset + 1) else c.extent }
  | .response => { c with rspBox := c.rspBox.write c.offset b }

/-- The byte at the offset of the selected mailbox, 0 at offset 256 (R169). -/
def ControlPort.dataByte (c : ControlPort) : Byte :=
  if c.offset < Config.mailboxSize then
    match c.select with
    | .command => c.cmdBox.read c.offset
    | .response => c.rspBox.read c.offset
  else 0

/-- The byte that a read of MAILBOX_DATA returns: 0 where the part owns the mailbox (R169, R171). -/
def ControlPort.returnedByte (c : ControlPort) : Byte := if c.partOwns then 0 else c.dataByte

/-- A data byte that addresses a mailbox the part owns (R171, log 14). -/
def State.violate (s : State) : State := { s with eu := { s.eu with accessViolation := true } }

/-- MAILBOX_DATA_WRITE (R169, R171). -/
def execMailboxDataWrite (b : Byte) (s : State) : Host.Outcome State Fault Refusal :=
  .next <| s.unlessHeld <|
    if s.cp.partOwns then { s.violate with cp := s.cp.advance }
    else { s with cp := (s.cp.storeData b).advance }

/-- MAILBOX_DATA_READ: the byte returned is driven on MISO (R169, R171, log 9). -/
def execMailboxDataRead (s : State) : Host.Outcome State Fault Refusal :=
  .next <| s.unlessHeld { s with
    cp := { s.cp.advance with miso := [s.cp.returnedByte] }
    eu := { s.eu with accessViolation := s.eu.accessViolation || s.cp.partOwns } }

/-- ITEM_WRITE_IGNORED: a write to a read-only item or to an address that names no item (R163). A term
whose address takes writes names no event of this row (log 22). -/
def execItemWriteIgnored (address : BitVec 7) (value : Word) (s : State) : Host.Outcome State Fault Refusal :=
  if (Instr.itemWriteIgnored address value).wellFormed then .next s else .refused .illFormed

/-! ### Whole transactions (R162, R163, R195) -/

/-- The commands that a write transaction's data bytes amount to: MAILBOX_DATA takes each byte, another
item takes its value at the fourth byte and ignores what follows, and a write cut short is discarded. A byte
of MAILBOX_DATA that the end of the transaction cuts short is no command: it is neither stored nor counted
(R169), and it sets no ACCESS_VIOLATION (log 37). -/
def writeCommands (address : BitVec 7) (data : List Byte) : List Instr :=
  if address = 0x0A#7 then data.map .mailboxDataWrite
  else if data.length < 4 then []
  else
    let v := word (data.take 4)
    if address = 0x08#7 then [.mailboxFlags v]
    else if address = 0x09#7 then [.mailboxSelect v]
    else [.itemWriteIgnored address v]

/-- The commands that a read transaction of `n` data bytes amounts to: only EVENT_POP, SUMMARY and
MAILBOX_DATA have an effect, the first two only with all four bytes. -/
def readCommands (address : BitVec 7) (n : Nat) : List Instr :=
  if address = 0x0A#7 then List.replicate n .mailboxDataRead
  else if address = 0x03#7 then
    if 4 ≤ n then [.eventPop .whole] else [.eventPop .address, .eventPop .cut]
  else if address = 0x05#7 then
    if 4 ≤ n then [.summary .whole] else [.summary .address, .summary .cut]
  else []

/-- The commands of a whole transaction: the first byte gives direction and address (R162, R195), `data`
the bytes after it, of which a read has only the number. A transaction that ends within its first byte
does nothing. -/
def transactionCommands : List Byte → List Instr
  | [] => []
  | first :: data =>
    let address := first.extractLsb' 0 7
    if first.getLsbD 7 then readCommands address data.length else writeCommands address data

/-- The `n` bytes that a word gives on MISO: its four, most significant first, and 0 for every byte clocked
after them (R162, R192). -/
def wordOut (value : Word) (n : Nat) : List Byte := (bytes32 value ++ List.replicate n 0).take n

/-- The next `n` bytes of MAILBOX_DATA, each taken at the offset it finds (R169, R171). -/
def ControlPort.dataOut : ControlPort → Nat → List Byte
  | _, 0 => []
  | c, n + 1 => c.returnedByte :: c.advance.dataOut n

/-- The `n` data bytes of a read whose address byte the part receives in this state. A word is the item's value
at that moment, however long the bytes take and whatever changes meanwhile (R96, R163). A read of MAILBOX_DATA
takes each byte as it is driven: these are the bytes where nothing else changes the mailbox. -/
def State.readOut (s : State) (address : BitVec 7) (n : Nat) : List Byte :=
  if address = 0x0A#7 then s.cp.dataOut n else wordOut (s.readItem address) n

/-- What the part drives on MISO in a transaction whose first byte and data bytes MOSI carries: 0 in the first
byte, then on a read the item's bytes. Under a write's data bytes the spec leaves MISO open: it carries any
bytes `free` (R162, log 38). -/
def State.transactionOut (s : State) (free : Nat → Byte) : List Byte → List Byte
  | [] => []
  | first :: data =>
    0 :: (if first.getLsbD 7 then s.readOut (first.extractLsb' 0 7) data.length
          else (List.range data.length).map free)

/-- MISO is driven only while CSn is low and the part is out of a POWER_ON or PIN reset (R162, R168, R181). -/
def State.drivesMiso (s : State) (csnLow : Bool) : Bool := csnLow && s.cp.hold == .released

/-! ### Responses (R173, R174) -/

/-- The response statuses (R174). -/
inductive Status where
  | ok
  | deferred
  | badCommand
  | badLength
  | badArgument
  | notOpen
  | busy
  | noSlot
  | badProfile
  | incomplete
  | portActive
  | noLens
  | notFound
  deriving DecidableEq, Repr

/-- The status codes of R196. -/
def Status.code : Status → Byte
  | .ok => 0x00
  | .deferred => 0x01
  | .badCommand => 0x10
  | .badLength => 0x11
  | .badArgument => 0x12
  | .notOpen => 0x13
  | .busy => 0x14
  | .noSlot => 0x15
  | .badProfile => 0x16
  | .incomplete => 0x17
  | .portActive => 0x18
  | .noLens => 0x19
  | .notFound => 0x1A

/-- A response record: length, status, 0, arguments (R196). -/
def responseBytes (status : Status) (args : List Byte) : List Byte :=
  bytes16 (BitVec.ofNat 16 (4 + args.length)) ++ [status.code, 0] ++ args

/-- The completion of a command: the response, CMD and RSP cleared together, the written extent 0,
RESPONSE_READY (R172, R173). -/
def State.respond (s : State) (status : Status) (args : List Byte) : State :=
  let s := { s with
    cp := { s.cp with
      rspBox := Memory.holding (responseBytes status args)
      cmdFlag := false
      rspFlag := false
      extent := 0 } }
  s.post .responseReady (status.code.setWidth 16)

/-- A refusal with an argument's number (R174). -/
def State.badArgument (s : State) (n : Nat) : State := s.respond .badArgument [BitVec.ofNat 8 n]

/-! ### Execution of the command handed over (R172) -/

/-- Execution may begin: CMD 1, RSP 1, INIT_BUSY clear (R172). -/
def State.commandReady (s : State) : Bool := s.cp.cmdFlag && s.cp.rspFlag && !s.cp.initBusy

/-- Check 1 of R172: the length field lies in 4..256 and within the written extent. -/
def State.lengthInRange (s : State) : Bool :=
  decide (4 ≤ s.cmdLength) && decide (s.cmdLength ≤ 256) && decide (s.cmdLength ≤ s.cp.extent)

/-- The length of a command's record (R196): fixed, or checked by the command itself. -/
inductive CommandLength where
  | fixed (n : Nat)
  | byArguments
  deriving DecidableEq, Repr

/-- The commands that the codes of R196 name, with their lengths. -/
def commandTable : List (Nat × Instr × CommandLength) :=
  [ (0x01, .setConfig, .byArguments),
    (0x02, .getConfig, .fixed 4),
    (0x03, .getStatusDetail, .fixed 4),
    (0x04, .resetCore, .fixed 4),
    (0x05, .runControl, .fixed 5),
    (0x06, .portConfig, .fixed 42),
    (0x07, .portReset, .fixed 5),
    (0x10, .postAttach, .fixed 21),
    (0x11, .postPosition, .fixed 11),
    (0x12, .postDetach, .fixed 6),
    (0x13, .setSource, .fixed 5),
    (0x14, .readTimeline, .fixed 5),
    (0x20, .profileOpen, .byArguments),
    (0x21, .profileNodes, .byArguments),
    (0x22, .profileCommit, .fixed 4),
    (0x23, .profileDiscard, .fixed 4),
    (0x24, .profileDelete, .fixed 5),
    (0x25, .profileRead, .fixed 7),
    (0x26, .listProfiles, .fixed 4),
    (0x27, .bindOverride, .fixed 5) ]

/-- The command a code names, if it names one (R172, check 2). -/
def commandOfCode (code : Nat) : Option (Instr × CommandLength) :=
  (commandTable.find? fun row => row.1 == code).map (·.2)

/-- The row that executes the command handed over, once execution may begin: a command of the table, or
BAD_COMMAND where check 1 or 2 fails (R172, log 11). -/
def State.commandDue (s : State) : Option (Instr × CommandLength) :=
  if s.commandReady then
    if s.lengthInRange then some ((commandOfCode s.cmdCode).getD (.badCommand, .byArguments))
    else some (.badCommand, .byArguments)
  else none

/-- Execute a command if it is the one handed over; a fixed length that differs is BAD_LENGTH (R172,
check 3). -/
def State.runCommand (s : State) (c : Instr) (body : State → State) : State :=
  match s.commandDue with
  | some (d, len) =>
    if d = c then
      match len with
      | .fixed n => if s.cmdLength = n then body s else s.respond .badLength []
      | .byArguments => body s
    else s
  | none => s

/-- BAD_COMMAND: BAD_LENGTH where the length fails check 1, BAD_COMMAND where the code names nothing (R172). -/
def execBadCommand (s : State) : Host.Outcome State Fault Refusal :=
  .next <| s.runCommand .badCommand fun s =>
    s.respond (if s.lengthInRange then .badCommand else .badLength) []

end Sys2Proof.Machine
end

