-- ==== Sys2Proof/Machine/ControlCommands.lean ====
section
/-! DEFINITION. The commands of the control port and the engine: SET_CONFIG, GET_CONFIG, GET_STATUS_DETAIL, RESET_CORE, RUN_CONTROL. -/

namespace Sys2Proof.Machine

/-! ### SET_CONFIG (R175, R176) -/

/-- A parameter entry: parameter number and 3-byte value (R196). -/
structure ConfigEntry where
  parameter : Nat
  value : Nat
  deriving DecidableEq, Repr

/-- The entries of the command in the mailbox (R196). -/
def State.configEntries (s : State) : List ConfigEntry :=
  (List.range ((s.cmdLength - 4) / 4)).map fun i => ⟨s.arg (4 + 4 * i) 1, s.arg (5 + 4 * i) 3⟩

/-- The parameter is one of R175 and the value lies within its values (R176, R196). -/
def ConfigEntry.inRange (e : ConfigEntry) : Bool :=
  let v := e.value
  match e.parameter with
  | 1 => v == 0 || (decide (64 ≤ v) && decide (v ≤ 8192))
  | 2 => v == 0 || (decide (64 ≤ v) && decide (v ≤ 6144))
  | 3 => decide (2 ≤ v) && decide (v ≤ 250)
  | 4 => decide (10 ≤ v) && decide (v ≤ 2000)
  | 5 => decide (v ≤ 1)
  | 6 => decide (v ≤ 1)
  | 7 => decide (v ≤ 65535)
  | 8 => decide (v ≤ 2)
  | 9 => decide (1 ≤ v) && decide (v ≤ 15)
  | 10 => decide (v < 131072) && v % 2 == 0
  | 11 => decide (v ≤ 1)
  | _ => false

/-- The number of the first entry in error, entries counted from 1: not in range, or naming a parameter
that an earlier entry names (R176). `before` holds the parameters named so far. -/
def firstBadEntry (n : Nat) (before : List Nat) : List ConfigEntry → Option Nat
  | [] => none
  | e :: es =>
    if e.inRange && !before.contains e.parameter then firstBadEntry (n + 1) (e.parameter :: before) es
    else some n

def priorityOf (v : Nat) : ArbiterPriority :=
  if v = 0 then .none else if v = 1 then .mp0 else .mp1

/-- One parameter takes a value (R175). -/
def ConfigSet.apply (c : ConfigSet) (e : ConfigEntry) : ConfigSet :=
  let v := e.value
  match e.parameter with
  | 1 => { c with width := BitVec.ofNat 16 v }
  | 2 => { c with height := BitVec.ofNat 16 v }
  | 3 => { c with linkSilence := BitVec.ofNat 8 v }
  | 4 => { c with postedSilence := BitVec.ofNat 16 v }
  | 5 => { c with autoFailover := v == 1 }
  | 6 => { c with autoReturn := v == 1 }
  | 7 => { c with holdLimit := BitVec.ofNat 16 v }
  | 8 => { c with priority := priorityOf v }
  | 9 => { c with consecutiveLimit := v }
  | 10 => { c with mask := BitVec.ofNat 17 v }
  | 11 => { c with deferLow := v == 1 }
  | _ => c

/-- The entry names W or H with a value different from the present one (R176). -/
def ConfigSet.changesArray (c : ConfigSet) (e : ConfigEntry) : Bool :=
  (e.parameter == 1 && e.value != c.width.toNat) || (e.parameter == 2 && e.value != c.height.toNat)

def State.anyEnabled (s : State) : Bool := s.ports.mp0.config.enabled || s.ports.mp1.config.enabled

/-- The body of SET_CONFIG (R176). -/
def setConfigBody (s : State) : State :=
  if (s.cmdLength - 4) % 4 ≠ 0 ∨ s.cmdLength < 8 then s.badArgument 1
  else
    let es := s.configEntries
    match firstBadEntry 1 [] es with
    | some n => s.badArgument n
    | none =>
      if s.anyEnabled && es.any s.config.changesArray then s.respond .portActive []
      else ({ s with config := es.foldl ConfigSet.apply s.config }).respond .ok [BitVec.ofNat 8 es.length]

/-- SET_CONFIG (R176). -/
def execSetConfig (s : State) : Host.Outcome State Fault Refusal :=
  .next (s.runCommand .setConfig setConfigBody)

/-! ### GET_CONFIG (R177, R197) -/

/-- The eleven parameters as 3-byte values in R175's order. -/
def ConfigSet.toBytes (c : ConfigSet) : List Byte :=
  [ c.width.toNat, c.height.toNat, c.linkSilence.toNat, c.postedSilence.toNat, c.autoFailover.toNat,
    c.autoReturn.toNat, c.holdLimit.toNat, c.priority.code, c.consecutiveLimit, c.mask.toNat,
    c.deferLow.toNat ].flatMap fun v => bytes24 (BitVec.ofNat 24 v)

/-- A port's configuration: enabled, trigger mode, full policy, wait limit, stall limit, template. -/
def PortConfig.toBytes (c : PortConfig) : List Byte :=
  [boolByte c.enabled, BitVec.ofNat 8 c.mode.code, BitVec.ofNat 8 c.policy.code, c.waitLimit, c.stallLimit]
    ++ c.template.toBytes

/-- GET_CONFIG (R177). -/
def execGetConfig (s : State) : Host.Outcome State Fault Refusal :=
  .next <| s.runCommand .getConfig fun s =>
    s.respond .ok (s.config.toBytes ++ s.ports.mp0.config.toBytes ++ s.ports.mp1.config.toBytes)

/-! ### GET_STATUS_DETAIL (R178, R197) -/

def byteOf (n : Nat) : Byte := BitVec.ofNat 8 n

def LinkReceiver.detail (l : LinkReceiver) : List Byte :=
  bytes16 l.checkErrors ++ bytes16 l.gaps ++ bytes16 l.malformed ++ [byteOf l.good]

def State.trackerDetail (s : State) : List Byte :=
  [ byteOf s.trackerState.code, byteOf s.lst.source.code,
    byteOf (s.llr.fresh.toNat + 2 * s.lst.postedFresh.toNat) ]
    ++ bytes16 s.lst.epoch ++ [byteOf s.lst.timeline.length]
    ++ bytes16 s.lst.late ++ bytes16 s.lst.clamps ++ bytes16 s.lst.ignored

def StrobeRecord.detail (r : StrobeRecord) : List Byte :=
  bytes16 r.frame ++ bytes32 r.time ++ [boolByte r.offPeriod]

/-- The locked period, or the run count (R105). -/
def Lock.figure : Lock → Nat
  | .unlocked r => r.count
  | .locked period _ => period

/-- `n` bytes of a list, 0 beyond its end. -/
def padded (n : Nat) (bs : List Byte) : List Byte := (bs ++ List.replicate n 0).take n

def StrobeUnit.detail (u : StrobeUnit) : List Byte :=
  bytes16 u.counter ++ [boolByte u.lock.isLocked] ++ bytes32 (BitVec.ofNat 32 u.lock.figure)
    ++ [byteOf u.table.length] ++ padded 56 (u.table.flatMap StrobeRecord.detail)

def Request.detail (r : Request) : List Byte :=
  [byteOf r.slot.val, byteOf r.state.code] ++ bytes16 r.fields.tag
    ++ bytes16 ((r.strobe.map (·.frame)).getD 0)

/-- A slot entry beyond the occupied count: slot 0xFF, the rest 0 (R197). -/
def noRequestDetail : List Byte := [0xFF, 0, 0, 0, 0, 0]

def MeshPort.detail (q : MeshPort) : List Byte :=
  [byteOf q.slots.length]
    ++ ((q.slots.map Request.detail ++ List.replicate 4 noRequestDetail).take 4).flatten
    ++ [byteOf q.replies.length, byteOf q.reservations]
    ++ bytes16 (BitVec.ofNat 16 q.fifo.length) ++ bytes16 q.dropped

def State.storeDetail (s : State) : List Byte :=
  [ byteOf s.store.staging.code, byteOf (pendingCode s.store.pendingOp),
    slotByte (s.store.pendingOp.map StoreOp.slot), slotByte s.store.boundSlot, slotByte s.lst.override ]

/-- Time remaining on a stall timer, 0 where it is stopped (R161). -/
def timeRemaining (now : Word) : Option Word → Word
  | none => 0
  | some t => t - now

/-- The mesh in computation (R161), or the zeros of an idle engine with bound slot 0xFF (R197). -/
def meshDetail (now : Word) : Option Mesh → List Byte
  | some m =>
    [byteOf (portCode m.port)] ++ bytes16 m.request.fields.tag
      ++ bytes16 ((m.request.strobe.map (·.frame)).getD 0)
      ++ [slotByte m.binding.slot] ++ bytes16 m.epoch ++ [byteOf m.cursor]
      ++ bytes16 (BitVec.ofNat 16 m.nodes) ++ bytes16 (BitVec.ofNat 16 m.saturated) ++ [byteOf m.flagged]
      ++ [boolByte m.epochChanged, boolByte m.stallTimer.isSome] ++ bytes32 (timeRemaining now m.stallTimer)
  | none => [0, 0, 0, 0, 0, 0xFF] ++ List.replicate 14 0

def State.engineDetail (s : State) : List Byte :=
  [ byteOf s.me.runState.code, byteOf (portCode s.me.lastGranted), byteOf s.me.consecutive,
    boolByte s.me.mesh.isSome ] ++ meshDetail s.time s.me.mesh

/-- The arguments of GET_STATUS_DETAIL's response, group by group (R197). -/
def State.statusDetail (s : State) : List Byte :=
  [byteOf s.cp.resetCause.code] ++ s.llr.detail ++ s.trackerDetail
    ++ s.tsu.mp0.detail ++ s.tsu.mp1.detail ++ s.ports.mp0.detail ++ s.ports.mp1.detail
    ++ s.storeDetail ++ s.engineDetail ++ [byteOf s.eu.queue.length, boolByte s.eu.overflow]

/-- GET_STATUS_DETAIL (R178). -/
def execGetStatusDetail (s : State) : Host.Outcome State Fault Refusal :=
  .next <| s.runCommand .getStatusDetail fun s => s.respond .ok s.statusDetail

/-! ### RESET_CORE (R179) -/

/-- RESET_CORE: the CORE reset, then the response with its time and the cause before it (R179). -/
def execResetCore (s : State) : Host.Outcome State Fault Refusal :=
  .next <| s.runCommand .resetCore fun s =>
    s.coreReset.respond .ok (bytes32 s.time ++ [byteOf s.cp.resetCause.code])

/-! ### RUN_CONTROL (R143) -/

def runStateOf (n : Nat) : Option RunState :=
  if n = 0 then some .run else if n = 1 then some .hold else if n = 2 then some .step else none

/-- The body of RUN_CONTROL (R143). -/
def runControlBody (s : State) : State :=
  match runStateOf (s.arg 4 1) with
  | none => s.badArgument 1
  | some r =>
    ({ s with me := { s.me with runState := r } }).respond .ok
      [byteOf s.me.runState.code, byteOf r.code, boolByte s.me.mesh.isSome]

/-- RUN_CONTROL (R143). -/
def execRunControl (s : State) : Host.Outcome State Fault Refusal :=
  .next (s.runCommand .runControl runControlBody)

end Sys2Proof.Machine
end

