-- ==== Sys2Proof/Machine/LensCommands.lean ====
section
/-! DEFINITION. The lens commands of chapter 4: POST_ATTACH, POST_POSITION, POST_DETACH, SET_SOURCE, READ_TIMELINE. -/

namespace Sys2Proof.Machine

/-! ### Posting (R86 to R89) -/

/-- The outcomes of a POST command (R86). -/
inductive PostOutcome where
  | attached
  | detached
  | appended
  | extended
  | late
  | notCurrent
  deriving DecidableEq, Repr

def PostOutcome.code : PostOutcome → Nat
  | .attached => 0
  | .detached => 1
  | .appended => 2
  | .extended => 3
  | .late => 4
  | .notCurrent => 5

def SampleOutcome.toPost : SampleOutcome → PostOutcome
  | .late => .late
  | .extended => .extended
  | .appended => .appended

/-- The response of a POST command: outcome, flags CLAMPED and CONVERTER_CHANGE, epoch, newest entry index
(R86, R197). -/
def State.respondPost (s : State) (o : PostOutcome) (clamped converterChange : Bool) : State :=
  s.respond .ok
    ([byteOf o.code, byteOf (clamped.toNat + 2 * converterChange.toNat)]
      ++ bytes16 s.lst.epoch ++ [byteOf (s.lst.timeline.length - 1)])

/-- The sample time of a POST command with an age (R86). -/
def State.postTime (s : State) (age : Nat) : Word := s.time - BitVec.ofNat 32 age

/-- The attach a POST_ATTACH carries (R87, R196). -/
def State.argAttach (s : State) : Attach where
  lensId := s.arg32 4
  firmware := s.arg16 8
  focalMin := s.arg16 10
  focalMax := s.arg16 12
  converter := BitVec.ofNat 2 (s.arg 14 1)
  focal := s.arg16 15
  focus := BitVec.ofNat 12 (s.arg 17 2)

/-- The number of POST_ATTACH's first argument in error (R87). -/
def State.badAttachArgument (s : State) : Option Nat :=
  firstFailing
    [ (3, decide (1 ≤ s.arg 10 2)),
      (4, decide (s.arg 10 2 ≤ s.arg 12 2)),
      (5, decide (s.arg 14 1 ≤ 3)),
      (7, decide (s.arg 17 2 ≤ 4095)) ]

/-- The body of POST_ATTACH (R86, R87). -/
def postAttachBody (s : State) : State :=
  match s.badAttachArgument with
  | some n => s.badArgument n
  | none =>
    let r := s.touchPosted.attach s.argAttach (s.postTime (s.arg 19 2)) .posted
    r.1.respondPost .attached r.2 false

/-- POST_ATTACH (R87). -/
def execPostAttach (s : State) : Host.Outcome State Fault Refusal :=
  .next (s.runCommand .postAttach postAttachBody)

/-- The number of POST_POSITION's first argument in error (R88). -/
def State.badPositionArgument (s : State) : Option Nat :=
  firstFailing [(2, decide (s.arg 6 2 ≤ 4095)), (3, decide (s.arg 8 1 ≤ 3))]

/-- The sample a POST_POSITION carries (R86, R88). -/
def State.argSample (s : State) : Sample where
  time := s.postTime (s.arg 9 2)
  focal := s.arg16 4
  focus := BitVec.ofNat 12 (s.arg 6 2)
  converter := BitVec.ofNat 2 (s.arg 8 1)
  feed := .posted

/-- A posted position applied by a tracker whose source is POSTED (R88). -/
def State.postSample (s : State) (x : Sample) : State :=
  let change := x.converter != s.recordConverter
  let s := if change then s.changeConverter x.converter else s
  let r := s.enterSample x
  r.1.testCover.respondPost r.2.1.toPost r.2.2 change

/-- The body of POST_POSITION (R86, R88). -/
def postPositionBody (s : State) : State :=
  match s.badPositionArgument with
  | some n => s.badArgument n
  | none =>
    if !s.attached then s.respond .noLens []
    else
      let x := s.argSample
      let s := s.touchPosted
      if s.lst.source = .posted then s.postSample x
      else s.countIgnored.respondPost .notCurrent false false

/-- POST_POSITION (R88). -/
def execPostPosition (s : State) : Host.Outcome State Fault Refusal :=
  .next (s.runCommand .postPosition postPositionBody)

/-- The body of POST_DETACH (R89): every age is in range and none has a use. -/
def postDetachBody (s : State) : State :=
  if !s.attached then s.respond .noLens []
  else s.touchPosted.detach.respondPost .detached false false

/-- POST_DETACH (R89). -/
def execPostDetach (s : State) : Host.Outcome State Fault Refusal :=
  .next (s.runCommand .postDetach postDetachBody)

/-! ### SET_SOURCE (R84) -/

def feedOf (n : Nat) : Option Feed :=
  if n = 0 then some .link else if n = 1 then some .posted else none

/-- The body of SET_SOURCE (R84). -/
def setSourceBody (s : State) : State :=
  match feedOf (s.arg 4 1) with
  | none => s.badArgument 1
  | some f =>
    let s' := if s.lst.source = f then s else s.changeSource f false
    s'.respond .ok [byteOf s.lst.source.code, byteOf f.code, boolByte (s.freshOf f)]

/-- SET_SOURCE (R84). -/
def execSetSource (s : State) : Host.Outcome State Fault Refusal :=
  .next (s.runCommand .setSource setSourceBody)

/-! ### READ_TIMELINE (R90, R197) -/

def LensRecord.toBytes (r : LensRecord) : List Byte :=
  bytes32 r.lensId ++ bytes16 r.firmware ++ bytes16 r.focalMin ++ bytes16 r.focalMax
    ++ [r.converter.setWidth 8, byteOf r.presence.code] ++ bytes16 r.epoch

def Entry.toBytes (e : Entry) : List Byte :=
  bytes32 e.tFirst ++ bytes32 e.tLast ++ bytes16 e.focal ++ bytes16 (e.focus.setWidth 16)
    ++ [e.converter.setWidth 8, byteOf e.source.code]

/-- The entries READ_TIMELINE returns: from the first index towards the newest, at most 16. -/
def State.timelineFrom (s : State) (first : Nat) : List Entry := (s.lst.timeline.drop first).take 16

/-- The lens record, or 14 bytes of 0 where there is none (R197). -/
def State.recordBytes (s : State) : List Byte :=
  match s.lst.record with
  | some r => r.toBytes
  | none => List.replicate 14 0

/-- The body of READ_TIMELINE (R90). -/
def readTimelineBody (s : State) : State :=
  if 127 < s.arg 4 1 then s.badArgument 1
  else
    let es := s.timelineFrom (s.arg 4 1)
    s.respond .ok
      ([byteOf s.trackerState.code, byteOf s.lst.source.code] ++ bytes16 s.lst.epoch
        ++ [boolByte s.lst.record.isSome] ++ s.recordBytes
        ++ [byteOf s.lst.timeline.length, byteOf es.length] ++ es.flatMap Entry.toBytes)

/-- READ_TIMELINE (R90). -/
def execReadTimeline (s : State) : Host.Outcome State Fault Refusal :=
  .next (s.runCommand .readTimeline readTimelineBody)

end Sys2Proof.Machine
end

