-- ==== Sys2Proof/Machine/PortCommands.lean ====
section
/-! DEFINITION. The commands of the mesh ports: PORT_CONFIG, PORT_RESET. -/

namespace Sys2Proof.Machine

def portOf (n : Nat) : Option Port :=
  if n = 0 then some .mp0 else if n = 1 then some .mp1 else none

def modeOf (n : Nat) : Option TriggerMode :=
  if n = 0 then some .command else if n = 1 then some .strobe else if n = 2 then some .strobeOnce else none

def policyOf (n : Nat) : Option FullPolicy :=
  if n = 0 then some .dropNew else if n = 1 then some .replaceOldest else none

/-- The template argument of PORT_CONFIG: 32 bytes from offset 10 (R193, R196). -/
def State.argTemplate (s : State) : RequestFields :=
  RequestFields.ofWords (wordsOf (s.cp.cmdBox.slice 10 32))

/-- The two configurations agree but for the template's exposure and line time (R136, check 3). -/
def PortConfig.sameButTiming (a b : PortConfig) : Bool :=
  a == { b with
    template := { b.template with exposure := a.template.exposure, lineTime := a.template.lineTime } }

/-- The template passes checks 3 and 4 of R124 (R136, check 4). -/
def templateFits (f : RequestFields) (c : ConfigSet) : Bool := windowFits f c && gridFits f.nc f.nr

/-- The checks of PORT_CONFIG after the arguments' own, in order: the argument at fault, or PORT_ACTIVE
(R136, checks 2 to 4). -/
def State.configure (s : State) (p : Port) (c : PortConfig) : State :=
  let q := s.port p
  if c.enabled && (s.config.width == 0 || s.config.height == 0) then s.badArgument 2
  else if q.config.enabled && !q.slots.isEmpty && !c.sameButTiming q.config then s.respond .portActive []
  else if c.enabled && c.mode != .command && !templateFits c.template s.config then s.badArgument 7
  else (s.setPort p { q with config := c }).respond .ok []

/-- The body of PORT_CONFIG (R136): its arguments in order, then `configure`. -/
def portConfigBody (s : State) : State :=
  match portOf (s.arg 4 1) with
  | none => s.badArgument 1
  | some p =>
    if 1 < s.arg 5 1 then s.badArgument 2
    else
      match modeOf (s.arg 6 1) with
      | none => s.badArgument 3
      | some mode =>
        match policyOf (s.arg 7 1) with
        | none => s.badArgument 4
        | some policy =>
          if s.arg 8 1 = 0 then s.badArgument 5
          else if s.arg 9 1 = 0 then s.badArgument 6
          else
            s.configure p
              { enabled := s.arg 5 1 == 1
                mode := mode
                template := s.argTemplate
                policy := policy
                waitLimit := BitVec.ofNat 8 (s.arg 8 1)
                stallLimit := BitVec.ofNat 8 (s.arg 9 1) }

/-- PORT_CONFIG (R136). -/
def execPortConfig (s : State) : Host.Outcome State Fault Refusal :=
  .next (s.runCommand .portConfig portConfigBody)

/-- The body of PORT_RESET (R137): the requests discarded are the occupied slots, an IN_ENGINE one
included (log 15). -/
def portResetBody (s : State) : State :=
  match portOf (s.arg 4 1) with
  | none => s.badArgument 1
  | some p => (s.portReset p).respond .ok [byteOf (s.port p).slots.length, boolByte (s.inProgress p)]

/-- PORT_RESET (R137). -/
def execPortReset (s : State) : Host.Outcome State Fault Refusal :=
  .next (s.runCommand .portReset portResetBody)

end Sys2Proof.Machine
end

