-- ==== Sys2Proof/Machine/ProfileCommands.lean ====
section
/-! DEFINITION. The profile commands of chapter 2: PROFILE_OPEN, PROFILE_NODES, PROFILE_COMMIT, PROFILE_DISCARD, PROFILE_DELETE, PROFILE_READ, LIST_PROFILES, BIND_OVERRIDE. -/

namespace Sys2Proof.Machine

/-- A command whose length leaves out a count byte has used up a free value (log 12). -/
def State.drawAbsent (s : State) : State :=
  if s.cmdLength < 6 then { s with freeIndex := s.freeIndex + 1 } else s

/-- A signed 16-bit argument in −2047..+2047 (R29). -/
def offsetInRange (v : Half) : Bool := decide (-2047 ≤ v.toInt) && decide (v.toInt ≤ 2047)

/-! ### PROFILE_OPEN (R29, R30) -/

/-- The number of PROFILE_OPEN's first argument in error, its counts given (R29). -/
def State.badOpenArgument (s : State) (focals focuses : Nat) : Option Nat :=
  firstFailing
    [ (1, decide (1 ≤ focals) && decide (focals ≤ 12)),
      (2, decide (1 ≤ focuses) && decide (focuses ≤ 8)),
      (3, decide (s.cmdLength = 20 + 2 * (focals + focuses))),
      (5, decide (s.arg 10 1 ≤ 3)),
      (6, decide (s.arg 11 1 ≤ 1)),
      (7, decide (256 ≤ s.arg 12 4) && decide (s.arg 12 4 ≤ 131071)),
      (8, offsetInRange (s.arg16 16)),
      (9, offsetInRange (s.arg16 18)),
      (10, ascendingIn 1 65535 (s.argList 20 focals)),
      (11, ascendingIn 0 4095 (s.argList (20 + 2 * focals) focuses)) ]

/-- The header and node lists of a PROFILE_OPEN (R29, R196). -/
def State.argHeader (s : State) (focals focuses : Nat) : ProfileHeader where
  lensId := s.arg32 6
  converter := BitVec.ofNat 2 (s.arg 10 1)
  isProtected := s.arg 11 1 == 1
  rn16 := BitVec.ofNat 17 (s.arg 12 4)
  ox := s.arg16 16
  oy := s.arg16 18
  focals := (s.argList 20 focals).map (BitVec.ofNat 16)
  focuses := (s.argList (20 + 2 * focals) focuses).map (BitVec.ofNat 12)

/-- The staging slot of an accepted PROFILE_OPEN: every set unwritten (R30). -/
def Staged.opening (h : ProfileHeader) : Staged := ⟨h, List.replicate h.tableSize none⟩

/-- The body of PROFILE_OPEN (R29, R30). -/
def profileOpenBody (s : State) : State :=
  if s.store.staging ≠ .closed then s.respond .busy []
  else
    let focals := s.countArg 4
    let focuses := s.countArg 5
    match s.badOpenArgument focals focuses with
    | some n => s.drawAbsent.badArgument n
    | none =>
      let p := Staged.opening (s.argHeader focals focuses)
      ({ s with store := { s.store with staging := .opened p } }).respond .ok [byteOf p.header.tableSize]

/-- PROFILE_OPEN (R29). -/
def execProfileOpen (s : State) : Host.Outcome State Fault Refusal :=
  .next (s.runCommand .profileOpen profileOpenBody)

/-! ### PROFILE_NODES (R31) -/

/-- The coefficient sets of a PROFILE_NODES, from offset 6. -/
def State.argSets (s : State) (count : Nat) : List CoeffSet :=
  (List.range count).map fun i => CoeffSet.ofBox s.cp.cmdBox (6 + 24 * i)

/-- Sets written into a node table from an index on (R31). -/
def writeSets (table : List (Option CoeffSet)) (first : Nat) : List CoeffSet → List (Option CoeffSet)
  | [] => table
  | c :: cs => writeSets (table.set first (some c)) (first + 1) cs

/-- The body of PROFILE_NODES (R31). -/
def profileNodesBody (s : State) : State :=
  match s.store.staging with
  | .opened p =>
    let first := s.countArg 4
    let count := s.countArg 5
    match firstFailing
        [ (2, decide (1 ≤ count) && decide (count ≤ 8)),
          (1, decide (first + count ≤ p.header.tableSize)),
          (3, decide (s.cmdLength = 6 + 24 * count)) ] with
    | some n => s.drawAbsent.badArgument n
    | none =>
      let p := { p with table := writeSets p.table first (s.argSets count) }
      ({ s with store := { s.store with staging := .opened p } }).respond .ok
        [byteOf (p.table.countP Option.isSome), byteOf p.header.tableSize]
  | _ => s.respond .notOpen []

/-- PROFILE_NODES (R31). -/
def execProfileNodes (s : State) : Host.Outcome State Fault Refusal :=
  .next (s.runCommand .profileNodes profileNodesBody)

/-! ### PROFILE_COMMIT (R32 to R35) -/

/-- A fill coefficient in 524,288..2,097,152 (R32). -/
def fillInRange (c : CoeffSet) : Bool := decide (524288 ≤ coeff c.fill) && decide (coeff c.fill ≤ 2097152)

/-- A written set's fill is out of range. -/
def badFill : Option CoeffSet → Bool
  | some c => !fillInRange c
  | none => false

/-- A commit that passed every check, to its target: deferred where the target is bound, applied at once
otherwise (R34, R35). -/
def State.commitTo (s : State) (k : Fin 16) (p : Staged) : State :=
  if s.store.boundSlot = some k then
    ({ s with store := { s.store with staging := .committing p, pendingOp := some (.commit k) } }).respond
      .deferred [byteOf k.val, s.generation k + 1]
  else (s.applyCommit k p).respond .ok [byteOf k.val, s.generation k + 1]

/-- The body of PROFILE_COMMIT (R32). -/
def profileCommitBody (s : State) : State :=
  if s.store.pendingOp.isSome then s.respond .busy []
  else
    match s.store.staging with
    | .opened p =>
      match p.table.findIdx? Option.isNone with
      | some i => s.respond .incomplete [byteOf i]
      | none =>
        match p.table.findIdx? badFill with
        | some i => s.respond .badProfile [byteOf i, 8]
        | none =>
          match s.commitTarget p.header with
          | none => s.respond .noSlot []
          | some k => s.commitTo k p
    | _ => s.respond .notOpen []

/-- PROFILE_COMMIT (R32). -/
def execProfileCommit (s : State) : Host.Outcome State Fault Refusal :=
  .next (s.runCommand .profileCommit profileCommitBody)

/-! ### PROFILE_DISCARD (R37) -/

/-- A pending delete stays; a pending commit is cancelled (R37). -/
def StoreOp.keepDelete : StoreOp → Option StoreOp
  | .commit _ => none
  | .delete k => some (.delete k)

/-- The body of PROFILE_DISCARD (R37). -/
def profileDiscardBody (s : State) : State :=
  match s.store.staging with
  | .closed => s.respond .ok [0]
  | .opened _ => ({ s with store := { s.store with staging := .closed } }).respond .ok [1]
  | .committing _ =>
    ({ s with
        store := { s.store with
          staging := .closed
          pendingOp := s.store.pendingOp.bind StoreOp.keepDelete } }).respond .ok [2]

/-- PROFILE_DISCARD (R37). -/
def execProfileDiscard (s : State) : Host.Outcome State Fault Refusal :=
  .next (s.runCommand .profileDiscard profileDiscardBody)

/-! ### PROFILE_DELETE (R38, R39) -/

/-- A delete that passed every check: deferred where the slot is bound, applied at once otherwise (R39). -/
def State.deleteSlot (s : State) (k : Fin 16) : State :=
  if s.store.boundSlot = some k then
    ({ s with store := { s.store with pendingOp := some (.delete k) } }).respond
      .deferred [byteOf k.val, s.generation k]
  else (s.applyDelete k).respond .ok [byteOf k.val, s.generation k]

/-- The body of PROFILE_DELETE (R38). -/
def profileDeleteBody (s : State) : State :=
  match slotOf? (s.arg 4 1) with
  | none => s.badArgument 1
  | some k =>
    if s.store.pendingOp.isSome then s.respond .busy []
    else if (s.profile? k).isNone then s.respond .notFound []
    else s.deleteSlot k

/-- PROFILE_DELETE (R38). -/
def execProfileDelete (s : State) : Host.Outcome State Fault Refusal :=
  .next (s.runCommand .profileDelete profileDeleteBody)

/-! ### PROFILE_READ (R40, R41) -/

/-- The sets a read returns, hidden where the slot is protected (R40, R41). -/
def Profile.readSets (p : Profile) (first count : Nat) : List Byte :=
  ((p.table.drop first).take count).flatMap fun c =>
    (if p.header.isProtected then CoeffSet.hidden else c).toBytes

/-- The body of PROFILE_READ (R40). -/
def profileReadBody (s : State) : State :=
  match slotOf? (s.arg 4 1) with
  | none => s.badArgument 1
  | some k =>
    match s.profile? k with
    | none => s.respond .notFound []
    | some p =>
      match firstFailing
          [ (3, decide (s.arg 6 1 ≤ 8)),
            (2, decide (s.arg 5 1 + s.arg 6 1 ≤ p.header.tableSize)) ] with
      | some n => s.badArgument n
      | none =>
        s.respond .ok (p.header.toBytes (s.generation k) ++ p.readSets (s.arg 5 1) (s.arg 6 1))

/-- PROFILE_READ (R40). -/
def execProfileRead (s : State) : Host.Outcome State Fault Refusal :=
  .next (s.runCommand .profileRead profileReadBody)

/-! ### LIST_PROFILES (R42) -/

/-- One slot's entry: flags, lens ID, converter, generation (R42, R197). -/
def State.slotEntry (s : State) (k : Fin 16) : List Byte :=
  let pending : Nat := if s.store.pendingOp.map StoreOp.slot = some k then 4 else 0
  match s.profile? k with
  | some p =>
    [byteOf (1 + 2 * p.header.isProtected.toNat + pending)] ++ bytes32 p.header.lensId
      ++ [p.header.converter.setWidth 8, s.generation k]
  | none => [byteOf pending, 0, 0, 0, 0, 0, s.generation k]

/-- LIST_PROFILES (R42). -/
def execListProfiles (s : State) : Host.Outcome State Fault Refusal :=
  .next <| s.runCommand .listProfiles fun s =>
    s.respond .ok
      ([byteOf s.store.staging.code, slotByte s.lst.override, slotByte s.store.boundSlot]
        ++ slotNumbers.flatMap s.slotEntry)

/-! ### BIND_OVERRIDE (R43) -/

/-- The override as it was before, returned by every accepted BIND_OVERRIDE (R43). -/
def State.setOverride (s : State) (o : Option (Fin 16)) : State :=
  ({ s with lst := { s.lst with override := o } }).respond .ok [slotByte s.lst.override]

/-- The body of BIND_OVERRIDE (R43). -/
def bindOverrideBody (s : State) : State :=
  if s.arg 4 1 = 255 then s.setOverride none
  else
    match slotOf? (s.arg 4 1) with
    | none => s.badArgument 1
    | some k =>
      if s.lst.record.isNone then s.respond .noLens []
      else if (s.profile? k).isNone then s.respond .notFound []
      else s.setOverride (some k)

/-- BIND_OVERRIDE (R43). -/
def execBindOverride (s : State) : Host.Outcome State Fault Refusal :=
  .next (s.runCommand .bindOverride bindOverrideBody)

end Sys2Proof.Machine
end

