-- ==== Sys2Proof/Machine/Dispatch.lean ====
section
/-! DEFINITION. One arm for each command of the table, each a call of the command's meaning. -/

namespace Sys2Proof.Machine

def exec (i : Instr) (s : State) : Host.Outcome State Fault Refusal :=
  match i with
  | .powerOn => Sys2Proof.Machine.execPowerOn s
  | .pinReset => Sys2Proof.Machine.execPinReset s
  | .initBusyClear => Sys2Proof.Machine.execInitBusyClear s
  | .linkByte b => Sys2Proof.Machine.execLinkByte b s
  | .linkRunt bits => Sys2Proof.Machine.execLinkRunt bits s
  | .interByteTimeout => Sys2Proof.Machine.execInterByteTimeout s
  | .linkFreshnessExpiry => Sys2Proof.Machine.execLinkFreshnessExpiry s
  | .postedFreshnessExpiry => Sys2Proof.Machine.execPostedFreshnessExpiry s
  | .strobe p => Sys2Proof.Machine.execStrobe p s
  | .lossTimerExpiry p => Sys2Proof.Machine.execLossTimerExpiry p s
  | .requestRecord p w => Sys2Proof.Machine.execRequestRecord p w s
  | .waitTimerExpiry p slot => Sys2Proof.Machine.execWaitTimerExpiry p slot s
  | .wordTaken p => Sys2Proof.Machine.execWordTaken p s
  | .refuseRecordMove p => Sys2Proof.Machine.execRefuseRecordMove p s
  | .grant => Sys2Proof.Machine.execGrant s
  | .unitPlace => Sys2Proof.Machine.execUnitPlace s
  | .stallExpiry => Sys2Proof.Machine.execStallExpiry s
  | .eventPop phase => Sys2Proof.Machine.execEventPop phase s
  | .summary phase => Sys2Proof.Machine.execSummary phase s
  | .mailboxFlags value => Sys2Proof.Machine.execMailboxFlags value s
  | .mailboxSelect value => Sys2Proof.Machine.execMailboxSelect value s
  | .mailboxDataWrite b => Sys2Proof.Machine.execMailboxDataWrite b s
  | .mailboxDataRead => Sys2Proof.Machine.execMailboxDataRead s
  | .itemWriteIgnored address value => Sys2Proof.Machine.execItemWriteIgnored address value s
  | .setConfig => Sys2Proof.Machine.execSetConfig s
  | .getConfig => Sys2Proof.Machine.execGetConfig s
  | .getStatusDetail => Sys2Proof.Machine.execGetStatusDetail s
  | .resetCore => Sys2Proof.Machine.execResetCore s
  | .runControl => Sys2Proof.Machine.execRunControl s
  | .portConfig => Sys2Proof.Machine.execPortConfig s
  | .portReset => Sys2Proof.Machine.execPortReset s
  | .postAttach => Sys2Proof.Machine.execPostAttach s
  | .postPosition => Sys2Proof.Machine.execPostPosition s
  | .postDetach => Sys2Proof.Machine.execPostDetach s
  | .setSource => Sys2Proof.Machine.execSetSource s
  | .readTimeline => Sys2Proof.Machine.execReadTimeline s
  | .profileOpen => Sys2Proof.Machine.execProfileOpen s
  | .profileNodes => Sys2Proof.Machine.execProfileNodes s
  | .profileCommit => Sys2Proof.Machine.execProfileCommit s
  | .profileDiscard => Sys2Proof.Machine.execProfileDiscard s
  | .profileDelete => Sys2Proof.Machine.execProfileDelete s
  | .profileRead => Sys2Proof.Machine.execProfileRead s
  | .listProfiles => Sys2Proof.Machine.execListProfiles s
  | .bindOverride => Sys2Proof.Machine.execBindOverride s
  | .requestWordTaken p w => Sys2Proof.Machine.execRequestWordTaken p w s
  | .badCommand => Sys2Proof.Machine.execBadCommand s

end Sys2Proof.Machine
end

