-- ==== Sys2Proof/Machine/Tick.lean ====
section
/-! DEFINITION. What the part does when no command waits: its own events that are due, in a fixed order, and the advance of the timebase. -/

namespace Sys2Proof.Machine

/-- The profile store has cleared its slots: at a free instant, at a timebase value of at most 250 (R167,
log 5). -/
def State.initDone (s : State) : Bool :=
  s.cp.initBusy && s.cp.hold == .released && decide (min Config.initBusyBound (Config.initClearTime s.freeIndex) ≤ s.time.toNat)

/-- The slots of a port whose wait timers have expired (R131). -/
def State.waitsDue (s : State) (p : Port) : List Instr :=
  (s.port p).slots.filterMap fun r =>
    if reached s.time r.waitTimer && (r.state == .pendingFrame || r.state == .pendingCover) then
      some (.waitTimerExpiry p r.slot)
    else none

/-- A unit is held and fits the FIFO (R152). -/
def State.unitFits (s : State) : Bool :=
  match s.me.mesh with
  | some m => s.fits m.port m.unit
  | none => false

/-- The stall timer has expired, its unit still without room (R157, R158). -/
def State.stallDue (s : State) : Bool :=
  match s.me.mesh with
  | some m => reached s.time m.stallTimer && !s.fits m.port m.unit
  | none => false

/-- An event of the part's own, where it is due. -/
def dueIf (b : Bool) (i : Instr) : List Instr := if b then [i] else []

/-- The part's own events that are due at this moment, in the order in which an empty queue lets them
happen (log 2). -/
def State.dueEvents (s : State) : List Instr :=
  dueIf s.initDone .initBusyClear
    ++ (match s.commandDue with | some (c, _) => [c] | none => [])
    ++ dueIf (s.llr.rx == .inFrame && reached s.time s.llr.byteTimer) .interByteTimeout
    ++ dueIf (reached s.time s.llr.freshTimer) .linkFreshnessExpiry
    ++ dueIf (reached s.time s.lst.postedTimer) .postedFreshnessExpiry
    ++ dueIf (s.lossDue .mp0) (.lossTimerExpiry .mp0)
    ++ dueIf (s.lossDue .mp1) (.lossTimerExpiry .mp1)
    ++ s.waitsDue .mp0 ++ s.waitsDue .mp1
    ++ dueIf s.unitFits .unitPlace
    ++ dueIf s.stallDue .stallExpiry
    ++ dueIf (s.mayMove .mp0) (.refuseRecordMove .mp0)
    ++ dueIf (s.mayMove .mp1) (.refuseRecordMove .mp1)
    ++ dueIf s.grantPort.isSome .grant

/-- The timebase advances by one microsecond, or stands at 0 while the part is held in a reset (R93, R168). -/
def State.tick (s : State) : State := s.unlessHeld { s with time := s.time + 1 }

end Sys2Proof.Machine
end

