-- ==== Sys2Proof/Machine/Step.lean ====
section
/-! DEFINITION. One step: the command at the front of the queue; on an empty queue the part's own next event, or else the advance of the timebase. -/

namespace Sys2Proof.Machine

/-- What a step does on an empty queue (log 1). -/
def idle (s : State) : Host.Outcome State Fault Refusal :=
  match s.dueEvents with
  | i :: _ => exec i s
  | [] => .next s.tick

/-- Take the command at the front of the queue and execute it with the queue's rest. -/
def step (s : State) : Host.Outcome State Fault Refusal :=
  match s.pending with
  | i :: rest => exec i { s with pending := rest }
  | [] => idle s

/-- The state with the command a word spells put at the front of the queue; no word spells one. -/
def State.withFetchWord (s : State) (nbits w : Nat) : State :=
  match decodeTableWord nbits w with
  | some i => { s with pending := i :: s.pending }
  | none => s

end Sys2Proof.Machine
end

