-- ==== Sys2Proof/Safety.lean ====
section
/-! DEFINITION. What it means for a state to be sound, block by block, and the words in which statements speak of the part: a command handed over, a list of events posted. Each predicate cites the rules that make it a law of the part. -/

namespace Sys2Proof.Machine

/-! ### Control port -/

/-- The mailboxes are in canonical form; written extent and offset lie in 0..256 (R169, R172). -/
abbrev State.mailboxesSound (s : State) : Prop :=
  s.cp.cmdBox.wf = true ∧ s.cp.rspBox.wf = true ∧ s.cp.extent ≤ 256 ∧ s.cp.offset ≤ 256

/-- A command with this code and this length stands in the command mailbox and its execution begins: CMD 1,
RSP 1, INIT_BUSY clear, the length in 4..256 and within the written extent (R172). -/
abbrev State.handed (s : State) (code length : Nat) : Prop :=
  s.cp.cmdFlag = true ∧ s.cp.rspFlag = true ∧ s.cp.initBusy = false
    ∧ s.cmdCode = code ∧ s.cmdLength = length ∧ 4 ≤ length ∧ length ≤ 256 ∧ length ≤ s.cp.extent

/-- The values that R175 gives the parameters. -/
abbrev ConfigSet.inRange (c : ConfigSet) : Prop :=
  (c.width = 0 ∨ 64 ≤ c.width.toNat ∧ c.width.toNat ≤ 8192)
    ∧ (c.height = 0 ∨ 64 ≤ c.height.toNat ∧ c.height.toNat ≤ 6144)
    ∧ 2 ≤ c.linkSilence.toNat ∧ c.linkSilence.toNat ≤ 250
    ∧ 10 ≤ c.postedSilence.toNat ∧ c.postedSilence.toNat ≤ 2000
    ∧ 1 ≤ c.consecutiveLimit ∧ c.consecutiveLimit ≤ 15
    ∧ c.mask.getLsbD 0 = false

/-! ### Event unit -/

/-- The event unit after these events have been posted at this moment, in this order (R182, R184). -/
def State.posting (s : State) (es : List (EventKind × Half)) : EventUnit :=
  es.foldl (fun u e => u.post (s.masked e.1) ⟨e.1, e.2, s.time⟩) s.eu

/-! ### Lens link receiver -/

/-- The receiver holds a partial frame only in IN_FRAME, of at most 17 bytes after SYNC and before CHECK,
with a LEN of at most 15 and the inter-byte timer running (R51 to R53); the error run and the good count
keep their ranges (R55, R62). -/
abbrev LinkReceiver.sound (l : LinkReceiver) : Prop :=
  (l.rx = .inFrame →
      l.byteTimer.isSome = true
        ∧ (2 ≤ l.frame.length → (l.frame.getD 1 0).toNat ≤ 15 ∧ l.frame.length ≤ 2 + (l.frame.getD 1 0).toNat))
    ∧ (l.rx ≠ .inFrame → l.frame = [] ∧ l.byteTimer = none)
    ∧ l.errorRun ≤ 2 ∧ l.good ≤ 3

/-! ### Lens state tracker -/

/-- Every entry's t_last is earlier than the next entry's t_first (R69). -/
def timelineInOrder : List Entry → Prop
  | a :: b :: es => earlier a.tLast b.tFirst = true ∧ timelineInOrder (b :: es)
  | _ => True

/-- The law of the timeline and of the lens record (R66, R67, R69, R70): at most 128 entries in order, every
focal value within the record's range; a timeline is empty exactly where no record exists; the record
carries the tracker's epoch. -/
def Tracker.sound (t : Tracker) : Prop :=
  t.timeline.length ≤ 128 ∧ timelineInOrder t.timeline
    ∧ match t.record with
      | none => t.timeline = [] ∧ t.override = none
      | some r =>
        t.timeline ≠ [] ∧ r.epoch = t.epoch ∧ 1 ≤ r.focalMin.toNat ∧ r.focalMin.toNat ≤ r.focalMax.toNat
          ∧ ∀ e ∈ t.timeline, r.focalMin.toNat ≤ e.focal.toNat ∧ e.focal.toNat ≤ r.focalMax.toNat

/-! ### Timebase and strobe unit -/

/-- Consecutive records carry consecutive frame numbers (R99). -/
def framesInOrder : List StrobeRecord → Prop
  | a :: b :: rs => b.frame = a.frame + 1 ∧ framesInOrder (b :: rs)
  | _ => True

/-- The run of an unlocked machine (R101): at most seven periods, each in range; an empty run's first period is 0
(log 39). -/
abbrev Run.sound (r : Run) : Prop :=
  r.count ≤ 7 ∧ (r.count = 0 → r.first = 0 ∧ r.sum = 0)
    ∧ (1 ≤ r.count → 1000 ≤ r.first ∧ r.first ≤ 2000000)
    ∧ 1000 * r.count ≤ r.sum ∧ r.sum ≤ 2000000 * r.count

/-- The law of a port's strobe unit (R98, R99, R101, R102): the newest record is the counter's frame and the
previous strobe; an empty table has counter 0 and no previous strobe; a locked period lies in range and the
loss timer runs from the latest strobe. -/
def StrobeUnit.sound (u : StrobeUnit) : Prop :=
  u.table.length ≤ 8 ∧ framesInOrder u.table
    ∧ (match u.table.getLast? with
      | none => u.counter = 0 ∧ u.previous = none
      | some r => r.frame = u.counter ∧ u.previous = some r.time)
    ∧ match u.lock with
      | .unlocked r => r.sound
      | .locked period timer =>
        1000 ≤ period ∧ period ≤ 2000000 ∧ (u.previous.map fun t => expiry t (2 * period)) = some timer

/-! ### Mesh ports -/

/-- A request holds what its state calls for (R127, R128, R131): a strobe record copy once its frame is
resolved, a cover time while it waits for coverage, a wait timer while it waits at all; its geometry is that
of its fields, its exposure and fixed fill are clamped (R4, R16, R107). -/
def Request.sound (r : Request) : Prop :=
  (match r.state with
    | .pendingFrame => r.strobe = none ∧ r.waitTimer.isSome = true
    | .pendingCover => r.strobe.isSome = true ∧ r.coverTime.isSome = true ∧ r.waitTimer.isSome = true
    | .ready => r.strobe.isSome = true ∧ r.waitTimer = none
    | .inEngine => r.strobe.isSome = true ∧ r.waitTimer = none)
    ∧ r.nc = r.fields.nc ∧ r.nr = r.fields.nr ∧ r.fields.exposure.toNat ≤ 1000000
    ∧ (r.fields.fillMode = .fixed → 524288 ≤ r.fields.fixedFill.toInt ∧ r.fields.fixedFill.toInt ≤ 2097152)

/-- The request that the engine serves for a port is its head, alone in IN_ENGINE (R128, R133). -/
def engineHead (mesh : Option Mesh) (p : Port) (slots : List Request) : Prop :=
  match mesh with
  | some m =>
    if m.port = p then
      ∃ r rest, slots = r :: rest ∧ r.slot = m.request.slot ∧ r.state = .inEngine ∧ ∀ x ∈ rest, x.state ≠ .inEngine
    else ∀ x ∈ slots, x.state ≠ .inEngine
  | none => ∀ x ∈ slots, x.state ≠ .inEngine

/-- The law of a port's slots and reply queue (R122, R125, R127, R133): slot numbers differ, records and
reservations hold at most eight places, a partial record at most seven words. -/
def State.portSound (s : State) (p : Port) : Prop :=
  ((s.port p).slots.map Request.slot).Nodup ∧ (s.port p).placesUsed ≤ 8 ∧ (s.port p).gathered.length ≤ 7
    ∧ (∀ r ∈ (s.port p).slots, r.sound) ∧ engineHead s.me.mesh p (s.port p).slots

/-- A port's FIFO holds at most 1024 words, and at most 1021 while a mesh of the port is in progress (R138,
R152). -/
abbrev State.fifoSound (s : State) (p : Port) : Prop :=
  (s.port p).fifo.length ≤ 1024 ∧ (s.inProgress p = true → (s.port p).fifo.length ≤ 1021)

/-- The law of a port's configuration (R120, R121, R124, R136): limits of at least 1 ms; a DISABLED port
holds no request; an ENABLED port has W and H set, every request and every template that strobes use fits
the array and the grid limits. -/
def State.portConfigured (s : State) (p : Port) : Prop :=
  let q := s.port p
  1 ≤ q.config.waitLimit.toNat ∧ 1 ≤ q.config.stallLimit.toNat
    ∧ (q.config.enabled = false → q.slots = [])
    ∧ (q.config.enabled = true →
        s.config.width ≠ 0 ∧ s.config.height ≠ 0
          ∧ (q.config.mode ≠ .command →
              windowFits q.config.template s.config = true
                ∧ gridFits q.config.template.nc q.config.template.nr = true)
          ∧ ∀ r ∈ q.slots, windowFits r.fields s.config = true ∧ gridFits r.fields.nc r.fields.nr = true)

/-! ### Profile store -/

/-- Values strictly rising, each in `lo..hi` (R7). -/
def risingIn (lo hi : Nat) : List Nat → Prop
  | [] => True
  | v :: vs => lo ≤ v ∧ v ≤ hi ∧ risingIn (v + 1) hi vs

/-- The values that R22 and R29 give a profile's header. -/
def ProfileHeader.sound (h : ProfileHeader) : Prop :=
  1 ≤ h.focals.length ∧ h.focals.length ≤ 12 ∧ 1 ≤ h.focuses.length ∧ h.focuses.length ≤ 8
    ∧ 256 ≤ h.rn16.toNat
    ∧ -2047 ≤ h.ox.toInt ∧ h.ox.toInt ≤ 2047 ∧ -2047 ≤ h.oy.toInt ∧ h.oy.toInt ≤ 2047
    ∧ risingIn 1 65535 (h.focals.map (·.toNat)) ∧ risingIn 0 4095 (h.focuses.map (·.toNat))

/-- A fill coefficient between 0.5 and 2.0 (R22, R32). -/
abbrev CoeffSet.fillSound (c : CoeffSet) : Prop := 524288 ≤ c.fill.toInt ∧ c.fill.toInt ≤ 2097152

/-- An occupied slot's profile (R6, R7, R22): one set for each pair of nodes, every fill in range. -/
def Profile.sound (p : Profile) : Prop :=
  p.header.sound ∧ p.table.length = p.header.focals.length * p.header.focuses.length ∧ ∀ c ∈ p.table, c.fillSound

/-- The staging slot (R26, R32): a table of the header's size; while COMMITTING every set is written, with a
fill in range. -/
def Staging.sound : Staging → Prop
  | .closed => True
  | .opened p => p.header.sound ∧ p.table.length = p.header.focals.length * p.header.focuses.length
  | .committing p =>
    p.header.sound ∧ p.table.length = p.header.focals.length * p.header.focuses.length
      ∧ ∀ c ∈ p.table, ∃ x, c = some x ∧ x.fillSound

/-- Every profile the store holds or stages is well formed. -/
def ProfileStore.profilesSound (st : ProfileStore) : Prop :=
  (∀ (k : Fin 16) (p : Profile), (st.slots.get k).profile = some p → p.sound) ∧ st.staging.sound

/-- The key of a slot's profile, where the slot is occupied (R22). -/
def State.key? (s : State) (k : Fin 16) : Option (Word × BitVec 2) :=
  (s.profile? k).map fun p => (p.header.lensId, p.header.converter)

/-- The law of the store (R23, R25, R27, R35, R39, R43, R44): keys differ; the bound slot is the slot that the
mesh in computation has bound; a bound slot and an override are occupied; an operation is pending only on the
bound slot, and a commit exactly while the staging slot is COMMITTING, its target holding the staged key. -/
def State.storeSound (s : State) : Prop :=
  (∀ (j k : Fin 16) (key : Word × BitVec 2), s.key? j = some key → s.key? k = some key → j = k)
    ∧ s.store.boundSlot = s.me.mesh.bind (·.binding.slot)
    ∧ (∀ k : Fin 16, s.store.boundSlot = some k ∨ s.lst.override = some k → (s.profile? k).isSome = true)
    ∧ (match s.store.pendingOp, s.store.staging with
        | none, .committing _ => False
        | none, _ => True
        | some (.delete _), .committing _ => False
        | some (.delete k), _ => s.store.boundSlot = some k
        | some (.commit k), .committing p =>
          s.store.boundSlot = some k ∧ s.key? k = some (p.header.lensId, p.header.converter)
        | some (.commit _), _ => False)

/-! ### Mesh engine -/

/-- The arbiter's consecutive count lies in 0..15 (R147); a mesh in computation has reached no row past its
last, and serves a copy of a request in IN_ENGINE (R149, R153). -/
def Engine.sound (e : Engine) : Prop :=
  e.consecutive ≤ 15 ∧ ∀ m, e.mesh = some m → m.request.state = .inEngine ∧ m.cursor ≤ m.request.nr

/-! ### INIT_BUSY -/

/-- While INIT_BUSY is set, every block but the control port stands as a POWER_ON or PIN reset left it, the
words that leave a FIFO and the ACCESS_VIOLATION flag apart (R63, R104, R122, R160, R167, R190). That the store
already stands cleared in that interval is the model's reading of R48 (log 25). While the part is held in such a
reset, INIT_BUSY stands set (log 6), the timebase at 0, no read is in progress (log 40) and the streams are empty
(R93, R138, R168). -/
def State.quietInit (s : State) : Prop :=
  (s.cp.hold ≠ .released →
    s.cp.initBusy = true ∧ s.time = 0 ∧ s.cp.latch = none ∧ ∀ p, (s.port p).fifo = [])
  ∧ (s.cp.initBusy = true →
    s.config = ConfigSet.reset ∧ s.llr = LinkReceiver.reset ∧ s.lst = Tracker.reset
      ∧ s.tsu = ⟨StrobeUnit.reset, StrobeUnit.reset⟩ ∧ s.store = ProfileStore.cleared ∧ s.me = Engine.reset
      ∧ s.eu.queue = [] ∧ s.eu.summary = 0 ∧ s.eu.overflow = false ∧ s.eu.eventTime = 0
      ∧ ∀ p, (s.port p).config = PortConfig.reset ∧ (s.port p).gathered = [] ∧ (s.port p).slots = []
        ∧ (s.port p).replies = [] ∧ (s.port p).dropped = 0)

end Sys2Proof.Machine
end

