-- ==== Sys2Proof/Certificates/Slice0/Obligations.lean ====
section
/-! DEFINITION. The statements for the provers, from the numbered rules of spec/. The rules at the head of a docstring are those whose text the statement draws on; OBLIGATIONS.json says which it states whole. A statement that rests on a choice of the model names its log entry. -/

open Sys2Proof Sys2Proof.Machine

/-! ### Arithmetic and time -/

/-- R94: how two times compare and what their difference is, by d = (b − a) modulo 2^32, and that a sample
whose time is unordered with the newest t_last is late. -/
def Obligations.TimesCompareByTheirDifference : Prop :=
  (∀ a b : Word,
    let d : Nat := (b.toNat + 2 ^ 32 - a.toNat) % 2 ^ 32
    (d = 0 ↔ a = b)
      ∧ (earlier a b = true ↔ 1 ≤ d ∧ d ≤ 2147483647)
      ∧ (later b a = true ↔ 1 ≤ d ∧ d ≤ 2147483647)
      ∧ (earlier b a = true ↔ 2147483649 ≤ d)
      ∧ (later a b = true ↔ 2147483649 ≤ d)
      ∧ (notLater a b = true ↔ d ≤ 2147483648)
      ∧ (notEarlier b a = true ↔ d ≤ 2147483648)
      ∧ timeDiff a b = (if d ≤ 2147483647 then (d : Int) else (d : Int) - 4294967296))
    ∧ ∀ (s : State) (e : Entry) (t : Word),
        s.lst.timeline.getLast? = some e → (e.tLast - t).toNat = 2147483648 → s.isLate t = true

/-- R10: the four weights, the rounded weighted sum of each of the eight coefficients, that it lies between the least
and the greatest of the four values it is formed from, so that it is a valid Q3.20 value and a fill stays in range, and
the grid nodes they are taken from, focal-major, `next` being the index after or 0 on a single-node axis; and that a
clamp on either axis marks OUTSIDE_GRID. -/
def Obligations.RowCoefficientsAreWeightedSums : Prop :=
  (∀ wf wu : Nat, wf ≤ 4096 → wu ≤ 4096 → ∀ c00 c10 c01 c11 : Int,
    let w00 : Int := (4096 - wf) * (4096 - wu)
    let w10 : Int := wf * (4096 - wu)
    let w01 : Int := (4096 - wf) * wu
    let w11 : Int := wf * wu
    let c := bilinear wf wu c00 c10 c01 c11
    (0 ≤ w00 ∧ w00 ≤ 2 ^ 24) ∧ (0 ≤ w10 ∧ w10 ≤ 2 ^ 24) ∧ (0 ≤ w01 ∧ w01 ≤ 2 ^ 24) ∧ (0 ≤ w11 ∧ w11 ≤ 2 ^ 24)
      ∧ w00 + w10 + w01 + w11 = 2 ^ 24
      ∧ c = ⌊((w00 * c00 + w10 * c10 + w01 * c01 + w11 * c11 + 2 ^ 23 : Int) : ℚ) / 2 ^ 24⌋
      ∧ min (min c00 c10) (min c01 c11) ≤ c ∧ c ≤ max (max c00 c10) (max c01 c11)
      ∧ ((∀ v ∈ [c00, c10, c01, c11], 524288 ≤ v ∧ v ≤ 2097152) → 524288 ≤ c ∧ c ≤ 2097152)
      ∧ ((∀ v ∈ [c00, c10, c01, c11], -2 ^ 23 ≤ v ∧ v < 2 ^ 23) → -2 ^ 23 ≤ c ∧ c < 2 ^ 23))
    ∧ ∀ (p : Profile) (focal focus : Nat),
        let f := locate (p.header.focals.map (·.toNat)) focal
        let u := locate (p.header.focuses.map (·.toNat)) focus
        let node (a b : Nat) : CoeffSet := p.table.getD (a * p.header.focuses.length + b) CoeffSet.zero
        let mix (g : CoeffSet → BitVec 24) : Int :=
          bilinear f.weight u.weight (g (node f.index u.index)).toInt (g (node f.next u.index)).toInt
            (g (node f.index u.next)).toInt (g (node f.next u.next)).toInt
        (rowCoeffs p focal focus).1
          = { k1 := mix (·.k1), k2 := mix (·.k2), k3 := mix (·.k3), aR0 := mix (·.aR0), aR1 := mix (·.aR1)
              aB0 := mix (·.aB0), aB1 := mix (·.aB1), fill := mix (·.fill) }
          ∧ (p.header.focals.length = 1 → f.next = 0) ∧ (p.header.focuses.length = 1 → u.next = 0)
          ∧ (2 ≤ p.header.focals.length → f.next = f.index + 1) ∧ (2 ≤ p.header.focuses.length → u.next = u.index + 1)
          ∧ (rowCoeffs p focal focus).2 = (f.clamped || u.clamped)

/-- R8, R9: a value located on a strictly rising node list: the value clamped into the list's range, the
interval that holds it, its weight, and the mark of a clamp. -/
def Obligations.ValueIsLocatedInItsInterval : Prop :=
  ∀ (nodes : List Nat) (v : Nat), nodes ≠ [] → nodes.Pairwise (· < ·) →
    let first := nodes.headD 0
    let last := nodes.getLastD 0
    let x := max first (min last v)
    let l := locate nodes v
    (l.clamped = true ↔ v < first ∨ last < v)
      ∧ (nodes.length = 1 → l.index = 0 ∧ l.next = 0 ∧ l.weight = 0)
      ∧ (2 ≤ nodes.length →
          l.next = l.index + 1 ∧ l.next < nodes.length
            ∧ nodes.getD l.index 0 ≤ x ∧ x ≤ nodes.getD l.next 0
            ∧ (x ≠ last → x < nodes.getD l.next 0)
            ∧ l.weight = (x - nodes.getD l.index 0) * 4096 / (nodes.getD l.next 0 - nodes.getD l.index 0)
            ∧ l.weight ≤ 4096)

/-- R12: the normalised squared radius, its clamp, the nodes at which the clamp acts, and that it marks the node. -/
def Obligations.RadiusIsFlooredThenClamped : Prop :=
  ∀ dx dy rn : Int, 256 ≤ rn → rn ≤ 131071 →
    let q := ⌊((dx ^ 2 + dy ^ 2 : Int) : ℚ) * 2 ^ 30 / (rn : ℚ) ^ 2⌋
    (rho dx dy rn).value = (if 2 ^ 32 - 1 < q then 2 ^ 32 - 1 else q)
      ∧ 0 ≤ (rho dx dy rn).value
      ∧ ((rho dx dy rn).marked = true ↔ 2 ^ 32 - 1 < q)
      ∧ ((rho dx dy rn).marked = true ↔ (2 * rn) ^ 2 ≤ dx ^ 2 + dy ^ 2)
      ∧ ((rho dx dy rn).marked = true → ∀ (rgb : Bool) (c : RowCoeffs) (s : Int), (evalNode rgb rn c s dx dy).2 = true)

/-- R1, R13, R14, R17, R18: what "rounded at n" gives, and the words of a node with its saturation mark, stage by
stage: `q` is the Q11.20 clamp, `d` the clamp of a displacement. R194: the halves of a node word. -/
def Obligations.NodeIsEvaluatedStageByStage : Prop :=
  (∀ (n : Nat) (v : Int), roundAt n v = ⌊(v : ℚ) / 2 ^ n + 1 / 2⌋) ∧
  (∀ dx dy : Int, -32768 ≤ dx → dx ≤ 32767 → -32768 ≤ dy → dy ≤ 32767 →
    ((nodeWord dx dy).extractLsb' 16 16).toInt = dx ∧ ((nodeWord dx dy).extractLsb' 0 16).toInt = dy) ∧
  ∀ (rgb : Bool) (rn : Int) (c : RowCoeffs) (s dx dy : Int),
    let q (v : Int) : Int := max (-2147483648) (min 2147483647 v)
    let d (v : Int) : Int := max (-32768) (min 32767 v)
    let r := (rho dx dy rn).value
    let g2 := c.k2 + roundAt 30 (c.k3 * r)
    let g3 := c.k1 + roundAt 30 (q g2 * r)
    let g4 := 2 ^ 20 + roundAt 30 (q g3 * r)
    let fg := q g4
    let fr := roundAt 20 (fg * (2 ^ 20 + c.aR0 + roundAt 30 (c.aR1 * r)))
    let fb := roundAt 20 (fg * (2 ^ 20 + c.aB0 + roundAt 30 (c.aB1 * r)))
    let e (f : Int) : Int := roundAt 20 (f * s)
    let disp (z f : Int) : Int := roundAt 20 (z * (q (e f) - 2 ^ 20))
    let out (f : Int) : Word := nodeWord (d (disp dx f)) (d (disp dy f))
    let acts (f : Int) : Prop := e f ≠ q (e f) ∨ disp dx f ≠ d (disp dx f) ∨ disp dy f ≠ d (disp dy f)
    (evalNode rgb rn c s dx dy).1 = (if rgb then [out fg, out (q fr), out (q fb)] else [out fg])
      ∧ ((evalNode rgb rn c s dx dy).2 = true ↔
          (rho dx dy rn).marked = true ∨ g2 ≠ q g2 ∨ g3 ≠ q g3 ∨ g4 ≠ q g4 ∨ acts fg
            ∨ (rgb = true ∧ (fr ≠ q fr ∨ acts (q fr) ∨ fb ≠ q fb ∨ acts (q fb))))
      ∧ (s = 2 ^ 20 → ∀ f, e f = f)
      ∧ (dx = 0 → dy = 0 → ∀ w ∈ (evalNode rgb rn c s dx dy).1, w = 0)

/-- R114: an instant between two entries of one converter lies between their values. -/
def Obligations.InterpolationStaysBetweenItsEntries : Prop :=
  ∀ (a b : Entry) (t : Word), a.converter = b.converter →
    later t a.tLast = true → earlier t b.tFirst = true → earlier a.tLast b.tFirst = true →
    let span := (b.tFirst - a.tLast).toNat
    let w := (t - a.tLast).toNat * 4096 / span
    let mix (x y : Nat) : Int := (x : Int) + ⌊((((y : Int) - x) * w + 2048 : Int) : ℚ) / 4096⌋
    2 ≤ span ∧ w ≤ 4095
      ∧ ((between a b t).focal.toNat : Int) = mix a.focal.toNat b.focal.toNat
      ∧ ((between a b t).focus.toNat : Int) = mix a.focus.toNat b.focus.toNat
      ∧ (between a b t).converter = a.converter
      ∧ min a.focal.toNat b.focal.toNat ≤ (between a b t).focal.toNat
      ∧ (between a b t).focal.toNat ≤ max a.focal.toNat b.focal.toNat
      ∧ min a.focus.toNat b.focus.toNat ≤ (between a b t).focus.toNat
      ∧ (between a b t).focus.toNat ≤ max a.focus.toNat b.focus.toNat

/-- R110 to R116: the tests of an instant against a timeline, in their order. -/
def Obligations.InstantIsResolvedByTheTests : Prop :=
  ∀ (hold : Half) (t : Word),
    resolve [] hold t = ⟨LensState.zero, { noState := true }⟩
      ∧ ∀ (tl : List Entry) (oldest newest : Entry), tl.head? = some oldest → tl.getLast? = some newest →
          (later t newest.tLast = true →
            resolve tl hold t
              = ⟨newest.lens, { held := true, heldStale := decide (hold.toNat < (t - newest.tLast).toNat) }⟩)
          ∧ (later t newest.tLast = false → earlier t oldest.tFirst = true →
              resolve tl hold t = ⟨oldest.lens, { beforeHistory := true }⟩)
          ∧ (later t newest.tLast = false → earlier t oldest.tFirst = false →
              ∃ (pre post : List Entry) (k : Entry), tl = pre ++ k :: post
                ∧ notEarlier t k.tFirst = true ∧ (∀ e ∈ post, earlier t e.tFirst = true)
                ∧ (notLater t k.tLast = true → resolve tl hold t = ⟨k.lens, {}⟩)
                ∧ (later t k.tLast = true →
                    ∃ next rest, post = next :: rest
                      ∧ resolve tl hold t
                          = ⟨if k.converter = next.converter then between k next t else k.lens, {}⟩))

/-- R166, with the layout of R195: the ID item. -/
def Obligations.IdIsFixed : Prop :=
  ∀ s : State,
    s.readItem 0x00#7 = 0x5C161201#32
      ∧ (s.readItem 0x00#7).extractLsb' 20 12 = 0x5C1#12 ∧ (s.readItem 0x00#7).extractLsb' 8 12 = 0x612#12
      ∧ (s.readItem 0x00#7).extractLsb' 0 8 = 1#8
      ∧ s.readItem 0x00#7 ≠ 0 ∧ s.readItem 0x00#7 ≠ BitVec.allOnes 32

/-! ### The step and the resets -/

/-- The command at the front of the queue runs with the queue's rest. -/
def Obligations.StepRunsTheFrontCommand : Prop :=
  ∀ (c : Instr) (rest : List Instr) (s : State),
    step { s with pending := c :: rest } = exec c { s with pending := rest }

/-- R48, R64, R92, R93, R104, R120, R141, R160, R167, R168, R175, R180, R190: what a POWER_ON and a PIN reset leave,
and the state that holds the part between a reset's begin and its end, written out. The rules give INIT_BUSY and
empty slots at the reset's end and at INIT_BUSY's clearing; that INIT_BUSY stands set from the begin (log 6) and the
slots stand empty from the end (log 25, DEDUCED) is the model's reading. The empty miso and the zero of freeIndex are
the model's (log 9, log 21), and so are the first period 0 of an empty run (log 39) and the drop of a SUMMARY read
under way (log 40); the waiting commands, and how far each reset to come goes, the whole span where nothing
says otherwise (log 6), are the model's own. While held the part takes no command but the two resets, drives no MISO,
holds NOTIFYn released and ready and valid low. -/
def Obligations.PowerOnAndPinResetLeaveTheResetState : Prop :=
  let stopped : StrobeUnit := { counter := 0, table := [], previous := none, lock := .unlocked ⟨0, 0, 0⟩ }
  let template : RequestFields :=
    { tag := 0, frame := 0, expectedGen := 0, stepCode := 0, fillMode := .profile, latest := false
      requireProfile := false, strictGen := false, waitCover := false, rgb := false, x0 := 0, y0 := 0
      width := 0, height := 0, lineTime := 0, exposure := 0, fixedFill := 0 }
  let port (fifo : List Word) : MeshPort :=
    { config := { enabled := false, mode := .command, template := template, policy := .dropNew
                  waitLimit := 40, stallLimit := 10 }
      gathered := [], slots := [], replies := [], fifo := fifo, dropped := 0 }
  let state (hold : Hold) (cause : ResetCause) (fifo : List Word) (freeIndex : Nat)
      (phases : List ResetPhase) (pending : List Instr) : State :=
    { time := 0
      cp := { hold := hold, initBusy := true, resetCause := cause, cmdBox := [], rspBox := [], cmdFlag := false
              rspFlag := true, extent := 0, select := .command, offset := 0, latch := none, miso := [] }
      config := { width := 0, height := 0, linkSilence := 20, postedSilence := 100, autoFailover := false
                  autoReturn := false, holdLimit := 5000, priority := .none, consecutiveLimit := 4
                  mask := 0, deferLow := false }
      eu := { queue := [], summary := 0, overflow := false, accessViolation := false, eventTime := 0 }
      llr := { rx := .hunt, frame := [], bitCount := 0, byteTimer := none, expected := none
               checkErrors := 0, gaps := 0, malformed := 0, errorRun := 0, good := 0, fresh := false
               freshTimer := none }
      lst := { record := none, epoch := 0, timeline := [], source := .link, postedFresh := false
               postedTimer := none, late := 0, clamps := 0, ignored := 0, override := none }
      tsu := ⟨stopped, stopped⟩
      ports := ⟨port fifo, port fifo⟩
      store := { slots := Vector.replicate 16 ⟨0, none⟩, staging := .closed, pendingOp := none
                 boundSlot := none }
      me := { runState := .run, lastGranted := .mp1, consecutive := 0, mesh := none }
      freeIndex := freeIndex
      resetPhases := phases
      pending := pending }
  let opened (cause : ResetCause) (code : BitVec 2) : Nat → List ResetPhase → List Instr → State :=
    state .released cause [0x5#4 ++ code ++ 0#26, 0#32]
  (∀ (s : State) (rest : List ResetPhase),
      let goes (phase : ResetPhase) : State := { s with resetPhases := phase :: rest }
      let same : State := { s with resetPhases := rest }
      let off := opened .powerOn 0#2 s.freeIndex rest s.pending
      let pin := opened .pin 1#2 s.freeIndex rest s.pending
      let held (hold : Hold) := state hold s.cp.resetCause [] s.freeIndex rest s.pending
      exec .powerOn (goes .whole) = .next off
        ∧ exec .powerOn (goes .start) = .next (held .powerOn)
        ∧ exec .powerOn (goes .finish) = .next (if s.cp.hold = .powerOn then off else same)
        ∧ exec .pinReset (goes .whole) = .next (if s.cp.hold = .powerOn then same else pin)
        ∧ exec .pinReset (goes .start) = .next (if s.cp.hold = .powerOn then same else held .pin)
        ∧ exec .pinReset (goes .finish) = .next (if s.cp.hold = .pin then pin else same))
    ∧ (∀ s : State, s.resetPhases = [] →
        exec .powerOn s = .next (opened .powerOn 0#2 s.freeIndex [] s.pending)
          ∧ exec .pinReset s = .next (if s.cp.hold = .powerOn then s else opened .pin 1#2 s.freeIndex [] s.pending))
    ∧ State.reset = opened .powerOn 0#2 0 [] []
    ∧ ∀ (hold : Hold) (cause : ResetCause) (freeIndex : Nat) (phases : List ResetPhase) (pending : List Instr),
        hold ≠ .released →
        let h := state hold cause [] freeIndex phases pending
        (∀ c, c ≠ .powerOn → c ≠ .pinReset → c.wellFormed = true → exec c h = .next h)
          ∧ step { h with pending := [] } = .next { h with pending := [] }
          ∧ h.notifyAsserted = false ∧ (∀ csnLow, h.drivesMiso csnLow = false)
          ∧ ∀ p, h.requestReady p = false ∧ h.meshValid p = false

/-- R48, R167, R190: INIT_BUSY clears, the store stands cleared, RESET_DONE is posted with the cause. Clear
already (log 3), or held in a reset, the command has no effect. -/
def Obligations.InitBusyClearPostsResetDone : Prop :=
  ∀ s : State,
    (s.cp.hold = .released → s.cp.initBusy = true →
      exec .initBusyClear s = .next
        { s with
          cp := { s.cp with initBusy := false }
          store := { slots := Vector.replicate 16 ⟨0, none⟩, staging := .closed, pendingOp := none
                     boundSlot := none }
          eu := s.posting [(.resetDone, BitVec.ofNat 16 s.cp.resetCause.code)]
          freeIndex := s.freeIndex + 1 })
      ∧ (s.cp.initBusy = false ∨ s.cp.hold ≠ .released → exec .initBusyClear s = .next s)

/-- R49, R64, R92, R104, R141, R160, R175, R179, R180, R190: RESET_CORE. The first period 0 of an empty run is the
model's choice (log 39). -/
def Obligations.ResetCoreLeavesTheCoreResetState : Prop :=
  ∀ s : State, s.handed 0x04 4 →
    ∃ t, exec .resetCore s = .next t
      ∧ t.time = s.time ∧ t.config = ConfigSet.reset ∧ t.llr = LinkReceiver.reset ∧ t.lst = Tracker.reset
      ∧ t.tsu = ⟨StrobeUnit.reset, StrobeUnit.reset⟩ ∧ t.me = Engine.reset
      ∧ t.ports = ⟨MeshPort.reset [0x58000000#32, s.time], MeshPort.reset [0x58000000#32, s.time]⟩
      ∧ t.store = { slots := s.store.slots, staging := .closed, pendingOp := none, boundSlot := none }
      ∧ t.eu = { queue := [⟨.resetDone, 2, s.time⟩, ⟨.responseReady, 0, s.time⟩], summary := 0
                 overflow := false, accessViolation := false, eventTime := 0 }
      ∧ t.cp = { s.cp with
          resetCause := .core
          rspBox := Memory.holding (responseBytes .ok (bytes32 s.time ++ [BitVec.ofNat 8 s.cp.resetCause.code]))
          cmdFlag := false
          rspFlag := false
          extent := 0
          select := .response
          offset := 0
          latch := t.cp.latch }
      ∧ (t.cp.latch.map fun l => (l.item, l.value)) = (s.cp.latch.map fun l => (l.item, l.value))
      ∧ (∀ l, t.cp.latch = some l → l.live = false)
      ∧ t.freeIndex = s.freeIndex ∧ t.resetPhases = s.resetPhases ∧ t.pending = s.pending

/-- R104, R137, R140, R156, R159, R180: PORT_RESET of a port, with the release of its mesh where it has one in
progress: an operation pending on the bound slot is applied to that slot alone, and only a delete clears the override,
where it names the slot deleted. The other port is not touched. The count of requests discarded is DEDUCED (log 15), the
first period 0 of an empty run the model's choice (log 39). An argument that names no port is refused. -/
def Obligations.PortResetLeavesThePortResetState : Prop :=
  (∀ (s : State) (p : Port), s.handed 0x07 5 → s.arg 4 1 = portCode p →
      ∃ t, exec .portReset s = .next t
        ∧ t.port p = { config := { (s.port p).config with mode := .command }, gathered := [], slots := []
                       replies := [], fifo := [0x5C000000#32, s.time], dropped := 0 }
        ∧ t.tsu = s.tsu.set p StrobeUnit.reset
        ∧ t.port (portOther p) = s.port (portOther p)
        ∧ t.cp = { s.cp with
            rspBox := Memory.holding
              (responseBytes .ok [BitVec.ofNat 8 (s.port p).slots.length, if s.inProgress p then 1 else 0])
            cmdFlag := false
            rspFlag := false
            extent := 0 }
        ∧ t.time = s.time ∧ t.config = s.config ∧ t.llr = s.llr
        ∧ t.lst = { s.lst with override := t.lst.override }
        ∧ t.freeIndex = s.freeIndex ∧ t.resetPhases = s.resetPhases ∧ t.pending = s.pending
        ∧ (s.inProgress p = false →
            t.me = s.me ∧ t.store = s.store ∧ t.lst = s.lst ∧ t.eu = s.posting [(.responseReady, 0)])
        ∧ (s.inProgress p = true →
            t.me = { s.me with mesh := none } ∧ t.store.boundSlot = none
              ∧ (s.store.pendingOp = none →
                  t.store = { s.store with boundSlot := none } ∧ t.lst = s.lst
                    ∧ t.eu = s.posting [(.responseReady, 0)])
              ∧ (∀ (k : Fin 16) (p' : Staged), s.store.pendingOp = some (.commit k) →
                  s.store.boundSlot = some k → s.store.staging = .committing p' →
                  t.store = { slots := s.store.slots.set k ⟨s.generation k + 1, some p'.profile⟩, staging := .closed
                              pendingOp := none, boundSlot := none }
                    ∧ t.lst = s.lst
                    ∧ t.eu = s.posting
                        [(.profileApplied, (s.generation k + 1) ++ 0#4 ++ BitVec.ofNat 4 k.val), (.responseReady, 0)])
              ∧ (∀ k : Fin 16, s.store.pendingOp = some (.delete k) → s.store.boundSlot = some k →
                  t.store = { slots := s.store.slots.set k ⟨s.generation k, none⟩, staging := s.store.staging
                              pendingOp := none, boundSlot := none }
                    ∧ t.lst = { s.lst with override := if s.lst.override = some k then none else s.lst.override }
                    ∧ t.eu = s.posting
                        [(.profileApplied, s.generation k ++ 0x1#4 ++ BitVec.ofNat 4 k.val), (.responseReady, 0)])))
    ∧ ∀ s : State, s.handed 0x07 5 → 2 ≤ s.arg 4 1 → exec .portReset s = .next (s.respond .badArgument [1])

/-! ### Lens link -/

/-- R51, R52, R63: a byte that completes no frame: in HUNT, at a frame boundary, and inside a frame. A check
error is left to `CheckErrorDiscardsTheFrame`. -/
def Obligations.LinkByteMovesTheReceiver : Prop :=
  ∀ (s : State) (b : Byte),
    let opened : State := { s with
      llr := { s.llr with rx := .inFrame, frame := [], bitCount := 0, byteTimer := some (s.time + 20) } }
    let stored : State := { s with
      llr := { s.llr with frame := s.llr.frame ++ [b], bitCount := 0, byteTimer := some (s.time + 20) } }
    let dropped : State := { s with llr := { s.llr with bitCount := 0 } }
    (s.cp.initBusy = true → exec (.linkByte b) s = .next dropped)
      ∧ (s.cp.initBusy = false → s.llr.rx = .hunt →
          exec (.linkByte b) s = .next (if b = 0xA7#8 then opened else dropped))
      ∧ (s.cp.initBusy = false → s.llr.rx = .idle → b = 0xA7#8 → exec (.linkByte b) s = .next opened)
      ∧ (s.cp.initBusy = false → s.llr.rx = .inFrame → s.llr.frame = [] → exec (.linkByte b) s = .next stored)
      ∧ (s.cp.initBusy = false → s.llr.rx = .inFrame → s.llr.frame.length = 1 → b.toNat ≤ 15 →
          exec (.linkByte b) s = .next stored)
      ∧ (∀ head len payload, s.cp.initBusy = false → s.llr.rx = .inFrame → s.llr.frame = head :: len :: payload →
          payload.length ≠ len.toNat → exec (.linkByte b) s = .next stored)

/-- R51, R54, R56 to R62, R72 to R77, R83: a frame whose bytes sum to 0 is intact: the receiver returns to IDLE, the
sequence is checked, and a malformed frame is counted while a valid one refreshes the link (`heard`) and hands the
tracker its report. What the tracker does with each report: an ATTACH; a DETACH, whose age has no use; a POSITION or
HEARTBEAT, first with the automatic return to the link (`returned`), and a CONVERTER: entered as a sample, or counted as
ignored. A sample's own effect is `SampleIsLateFoldedOrAppended`, a coverage test's `CoverageTestEndsTheWaits`. -/
def Obligations.IntactFrameIsCheckedInSequence : Prop :=
  (∀ (s : State) (head len b : Byte) (payload : List Byte),
    s.cp.initBusy = false → s.llr.rx = .inFrame → s.llr.frame = head :: len :: payload →
    payload.length = len.toNat → (head :: len :: (payload ++ [b])).foldl (· + ·) 0 = 0 →
    let type := head.toNat / 16
    let seq : BitVec 4 := BitVec.ofNat 4 head.toNat
    let gap := match s.llr.expected with
      | none => 0
      | some e => (seq - e).toNat
    let byte (i : Nat) : Byte := payload.getD i 0
    let pair (i : Nat) : Half := byte i ++ byte (i + 1)
    let code (i : Nat) : BitVec 2 := (byte i).extractLsb' 0 2
    let focus (i : Nat) : BitVec 12 := BitVec.ofNat 12 (min 4095 (pair i).toNat)
    let sampleTime (i : Nat) : Word := s.time - BitVec.ofNat 32 (pair i).toNat
    let attaches : Prop := type = 1 ∧ len = 15 ∧ 1 ≤ (pair 6).toNat ∧ (pair 6).toNat ≤ (pair 8).toNat
    let positions : Prop := type = 2 ∧ len = 6
    let converts : Prop := type = 3 ∧ len = 3
    let detaches : Prop := type = 4 ∧ len = 2
    let beats : Prop := type = 5 ∧ len = 2
    let good := if type = 2 ∨ type = 5 then (if gap = 0 then min 3 (s.llr.good + 1) else 1) else s.llr.good
    let events := if gap = 0 then [] else [(EventKind.linkGap, BitVec.ofNat 16 gap)]
    let received : LinkReceiver := { s.llr with
      rx := .idle
      frame := []
      bitCount := 0
      byteTimer := none
      expected := some (seq + 1)
      gaps := satAdd s.llr.gaps gap
      errorRun := 0 }
    let taken (es : List (EventKind × Half)) : State := { s with
      llr := { received with
        good := good
        fresh := true
        freshTimer := some (s.time + BitVec.ofNat 32 (1000 * s.config.linkSilence.toNat)) }
      eu := s.posting (events ++ es) }
    let heard : State := if s.llr.fresh then taken [] else (taken [(.linkRestored, 0)]).testCover
    let reports (r : Report) : Prop := exec (.linkByte b) s = .next (heard.linkReport r good)
    (¬ (attaches ∨ positions ∨ converts ∨ detaches ∨ beats) →
      exec (.linkByte b) s = .next
        { s with
          llr := { received with malformed := satAdd s.llr.malformed 1, good := 0 }
          eu := s.posting events })
      ∧ (attaches → reports (.attach
          { lensId := pair 0 ++ pair 2, firmware := pair 4, focalMin := pair 6, focalMax := pair 8
            converter := code 10, focal := pair 11, focus := focus 13 } s.time))
      ∧ (positions → reports (.position (pair 0) (focus 2) (sampleTime 4)))
      ∧ (converts → reports (.converter (code 0) (sampleTime 1)))
      ∧ (detaches → reports (.detach (sampleTime 0)))
      ∧ (beats → reports (.heartbeat (sampleTime 0))))
    ∧ ∀ (t : State) (good : Nat),
        let unprofiled (id : Word) (c : BitVec 2) : List (EventKind × Half) :=
          if (t.slotWithKey id c).isSome = true ∨ (t.slotWithKey id 0).isSome = true then []
          else [(.noProfile, c.setWidth 16)]
        let ignored (u : State) : State := { u with lst := { u.lst with ignored := satAdd u.lst.ignored 1 } }
        let entered (u : State) (x : Sample) : State := (u.enterSample x).1.testCover
        let returned : State :=
          if t.config.autoReturn = true ∧ t.lst.source = .posted ∧ good = 3 then
            ({ t with lst := { t.lst with source := .link }, eu := t.posting [(.sourceChanged, 0x0100#16)] }).testCover
          else t
        (∀ (a : Attach) (time : Word), a.focalMin.toNat ≤ a.focalMax.toNat →
          let focal := BitVec.ofNat 16 (max a.focalMin.toNat (min a.focalMax.toNat a.focal.toNat))
          t.linkReport (.attach a time) good =
            ({ t with
              lst := { t.lst with
                record := some
                  { lensId := a.lensId, firmware := a.firmware, focalMin := a.focalMin, focalMax := a.focalMax
                    converter := a.converter, presence := .attached, epoch := t.lst.epoch + 1 }
                epoch := t.lst.epoch + 1
                timeline := [{ tFirst := time, tLast := time, focal := focal, focus := a.focus
                               converter := a.converter, source := .link }]
                clamps := if focal = a.focal then t.lst.clamps else satAdd t.lst.clamps 1
                override := none }
              eu := t.posting ((.lensAttached, t.lst.epoch + 1) :: unprofiled a.lensId a.converter) }).testCover)
          ∧ (t.attached = false → ∀ (f : Half) (u : BitVec 12) (c : BitVec 2) (time : Word),
              t.linkReport (.detach time) good = ignored t ∧ t.linkReport (.converter c time) good = ignored t
                ∧ t.linkReport (.position f u time) good = ignored returned
                ∧ t.linkReport (.heartbeat time) good = ignored returned)
          ∧ ∀ r, t.lst.record = some r → r.presence = .attached →
              (∀ time, t.linkReport (.detach time) good =
                ({ t with
                  lst := { t.lst with record := some { r with presence := .detached } }
                  eu := t.posting [(.lensDetached, t.lst.epoch)] }).testCover)
              ∧ (returned.lst.source = .posted → ∀ (f : Half) (u : BitVec 12) (time : Word),
                  t.linkReport (.position f u time) good = ignored returned
                    ∧ t.linkReport (.heartbeat time) good = ignored returned)
              ∧ (t.lst.source = .posted → ∀ (c : BitVec 2) (time : Word),
                  t.linkReport (.converter c time) good = ignored t)
              ∧ (returned.lst.source = .link → ∀ (f : Half) (u : BitVec 12) (time : Word),
                  t.linkReport (.position f u time) good = entered returned ⟨time, f, u, r.converter, .link⟩)
              ∧ ∀ e, t.lst.timeline.getLast? = some e →
                  (returned.lst.source = .link → ∀ time,
                    t.linkReport (.heartbeat time) good = entered returned ⟨time, e.focal, e.focus, r.converter, .link⟩)
                  ∧ (t.lst.source = .link → ∀ (c : BitVec 2) (time : Word),
                      let changed : State := { t with
                        lst := { t.lst with record := some { r with converter := c } }
                        eu := t.posting ((.converterChanged, c.setWidth 16) :: unprofiled r.lensId c) }
                      t.linkReport (.converter c time) good
                        = entered (if c = r.converter then t else changed) ⟨time, e.focal, e.focus, c, .link⟩)

/-- R61, R79, R80, R82, R132: a freshness timer expires: the feed goes stale, LINK_SILENT is posted, the ports test
their waits, and a stale link with the posted feed fresh fails over where AUTO_FAILOVER is set. Stopped or not
reached, the timer has no effect (log 3). That an expiry is still taken up to 2^31 − 1 µs late, the premise below
2^31, is the model's choice (log 29). -/
def Obligations.FreshnessExpiryMakesTheFeedStale : Prop :=
  ∀ s : State,
    (∀ x, s.llr.freshTimer = some x → (s.time - x).toNat < 2 ^ 31 →
      let stale : State := { s with
        llr := { s.llr with freshTimer := none, good := 0, fresh := false }
        eu := s.posting [(.linkSilent, 0)] }
      let fails := s.config.autoFailover = true ∧ s.lst.source = .link ∧ s.lst.postedFresh = true
      exec .linkFreshnessExpiry s = .next
        (if fails then
          { stale.testCover with
            lst := { s.lst with source := .posted }
            eu := s.posting [(.linkSilent, 0), (.sourceChanged, 0x0101#16)]
            ports := ({ stale.testCover with lst := { s.lst with source := .posted } }).testCover.ports }
        else stale.testCover))
      ∧ (s.llr.freshTimer = none → exec .linkFreshnessExpiry s = .next s)
      ∧ (∀ x, s.llr.freshTimer = some x → 2 ^ 31 ≤ (s.time - x).toNat → exec .linkFreshnessExpiry s = .next s)
      ∧ (∀ x, s.lst.postedTimer = some x → (s.time - x).toNat < 2 ^ 31 →
          exec .postedFreshnessExpiry s = .next
            ({ s with
              lst := { s.lst with postedTimer := none, postedFresh := false }
              eu := s.posting [(.linkSilent, 1)] }).testCover)
      ∧ (s.lst.postedTimer = none → exec .postedFreshnessExpiry s = .next s)
      ∧ (∀ x, s.lst.postedTimer = some x → 2 ^ 31 ≤ (s.time - x).toNat → exec .postedFreshnessExpiry s = .next s)

/-- R50, R51, R53, R54, R55, R63: every cause of a check error and its effects; a runt while hunting or during
INIT_BUSY is dropped; a timeout stopped, not reached or outside a frame has no effect (log 3), and one is taken up to
2^31 − 1 µs late, the model's choice (log 29); a runt of other than 1 to 7 bits is refused (log 22). -/
def Obligations.CheckErrorDiscardsTheFrame : Prop :=
  (∀ (s : State) (c : Instr),
      ((∃ bits, c = .linkRunt bits ∧ 1 ≤ bits ∧ bits ≤ 7 ∧ s.cp.initBusy = false ∧ s.llr.rx ≠ .hunt)
        ∨ (c = .interByteTimeout ∧ s.llr.rx = .inFrame ∧ ∃ x, s.llr.byteTimer = some x ∧ (s.time - x).toNat < 2 ^ 31)
        ∨ (∃ b, c = .linkByte b ∧ s.cp.initBusy = false
            ∧ ((s.llr.rx = .idle ∧ b ≠ 0xA7#8)
                ∨ (s.llr.rx = .inFrame ∧ s.llr.frame.length = 1 ∧ 16 ≤ b.toNat)
                ∨ (s.llr.rx = .inFrame ∧ ∃ head len payload, s.llr.frame = head :: len :: payload
                    ∧ payload.length = len.toNat ∧ (s.llr.frame ++ [b]).foldl (· + ·) 0 ≠ 0)))) →
      let n := satAdd s.llr.checkErrors 1
      exec c s = .next
        { s with
          llr := { s.llr with
            rx := .hunt
            frame := []
            bitCount := if c = .interByteTimeout then s.llr.bitCount else 0
            byteTimer := none
            checkErrors := n
            errorRun := if s.llr.errorRun = 2 then 0 else s.llr.errorRun + 1
            good := 0 }
          eu := if s.llr.errorRun = 2 then s.posting [(.linkErrors, n)] else s.eu })
    ∧ (∀ (s : State) (bits : Nat),
          (1 ≤ bits → bits ≤ 7 → (s.cp.initBusy = true ∨ s.llr.rx = .hunt) →
            exec (.linkRunt bits) s = .next { s with llr := { s.llr with bitCount := 0 } })
            ∧ (bits = 0 ∨ 8 ≤ bits → exec (.linkRunt bits) s = .refused .illFormed)
            ∧ (s.llr.rx ≠ .inFrame ∨ s.llr.byteTimer = none → exec .interByteTimeout s = .next s)
            ∧ (∀ x, s.llr.byteTimer = some x → 2 ^ 31 ≤ (s.time - x).toNat → exec .interByteTimeout s = .next s))

/-! ### Lens state tracker -/

/-- R70, R71: a sample against a timeline that is not empty: late, folded or appended, with the focal clamp. -/
def Obligations.SampleIsLateFoldedOrAppended : Prop :=
  ∀ (s : State) (x : Sample) (r : LensRecord) (older : List Entry) (e : Entry),
    s.lst.record = some r → r.focalMin.toNat ≤ r.focalMax.toNat → s.lst.timeline = older ++ [e] →
    let f := BitVec.ofNat 16 (max r.focalMin.toNat (min r.focalMax.toNat x.focal.toNat))
    let clamps := if f = x.focal then s.lst.clamps else satAdd s.lst.clamps 1
    let late := (x.time - e.tLast).toNat = 0 ∨ 2 ^ 31 ≤ (x.time - e.tLast).toNat
    (late →
      s.enterSample x = ({ s with lst := { s.lst with late := satAdd s.lst.late 1 } }, .late, false))
      ∧ (¬ late → f = e.focal ∧ x.focus = e.focus ∧ x.converter = e.converter →
          s.enterSample x
            = ({ s with lst := { s.lst with timeline := older ++ [{ e with tLast := x.time }], clamps := clamps } },
                .extended, f != x.focal))
      ∧ (¬ late → ¬ (f = e.focal ∧ x.focus = e.focus ∧ x.converter = e.converter) →
          s.enterSample x
            = ({ s with
                  lst := { s.lst with
                    timeline :=
                      (if s.lst.timeline.length < 128 then older ++ [e] else (older ++ [e]).tail)
                        ++ [⟨x.time, x.time, f, x.focus, x.converter, x.feed⟩]
                    clamps := clamps } },
                .appended, f != x.focal))

/-- R119, R132: a test of the coverage waits: a request that waits is READY where the timeline covers it, else
READY with COVER_INCOMPLETE where the tracker is not LIVE, else it goes on waiting; nothing else changes. R68: the
tracker's state. -/
def Obligations.CoverageTestEndsTheWaits : Prop :=
  ∀ s : State,
    let covers (c : Word) : Prop := ∃ e, s.lst.timeline.getLast? = some e ∧ earlier e.tLast c = false
    let settled (r : Request) : Request → Prop := fun r' =>
      (r.state ≠ .pendingCover → r' = r)
        ∧ ∀ c, r.state = .pendingCover → r.coverTime = some c →
            (covers c → r' = { r with state := .ready, coverIncomplete := false, waitTimer := none })
              ∧ (¬ covers c → s.trackerState = .live → r' = r)
              ∧ (¬ covers c → s.trackerState ≠ .live →
                  r' = { r with state := .ready, coverIncomplete := true, waitTimer := none })
    s.testCover = { s with ports := s.testCover.ports }
      ∧ (∀ p, s.testCover.port p = { s.port p with slots := (s.testCover.port p).slots }
          ∧ List.Forall₂ settled (s.port p).slots (s.testCover.port p).slots)
      ∧ (s.lst.record = none → s.trackerState = .absent)
      ∧ ∀ r, s.lst.record = some r →
          (r.presence = .detached → s.trackerState = .absent)
            ∧ (r.presence = .attached → s.lst.source = .link →
                s.trackerState = if s.llr.fresh then .live else .silent)
            ∧ (r.presence = .attached → s.lst.source = .posted →
                s.trackerState = if s.lst.postedFresh then .live else .silent)

/-- R47, R67, R73, R86, R87: POST_ATTACH: with its arguments in range, the attach; otherwise the refusal with the number
of the first argument in error. R79, R80, R82, R132: what every accepted POST command does to the posted feed and the
source, with the coverage tests that follow. -/
def Obligations.PostAttachFillsTheRecord : Prop :=
  (∀ (s : State) (lo hi f : Half), s.handed 0x10 21 → s.arg16 10 = lo → s.arg16 12 = hi → s.arg16 15 = f →
      1 ≤ lo.toNat → lo.toNat ≤ hi.toNat → s.arg 14 1 ≤ 3 → s.arg 17 2 ≤ 4095 →
      let epoch := s.lst.epoch + 1
      let converter := BitVec.ofNat 2 (s.arg 14 1)
      let focal := BitVec.ofNat 16 (max lo.toNat (min hi.toNat f.toNat))
      let time := s.time - BitVec.ofNat 32 (s.arg 19 2)
      let restored := s.lst.postedFresh = false
      let fails := restored ∧ s.config.autoFailover = true ∧ s.lst.source = .link ∧ s.llr.fresh = false
      let known := (s.slotWithKey (s.arg32 4) converter).isSome = true ∨ (s.slotWithKey (s.arg32 4) 0).isSome = true
      ∃ t, exec .postAttach s = .next t
        ∧ t = { s with cp := t.cp, eu := t.eu, lst := t.lst, ports := t.ports }
        ∧ t.lst = { s.lst with
            record := some { lensId := s.arg32 4, firmware := s.arg16 8, focalMin := lo, focalMax := hi
                             converter := converter, presence := .attached, epoch := epoch }
            epoch := epoch
            timeline := [{ tFirst := time, tLast := time, focal := focal, focus := BitVec.ofNat 12 (s.arg 17 2)
                           converter := converter, source := .posted }]
            source := if fails then .posted else s.lst.source
            postedFresh := true
            postedTimer := some (s.time + BitVec.ofNat 32 (1000 * s.config.postedSilence.toNat))
            clamps := if focal = f then s.lst.clamps else satAdd s.lst.clamps 1
            override := none }
        ∧ t.cp = { s.cp with
            rspBox := Memory.holding
              (responseBytes .ok ([0, if focal = f then 0 else 1] ++ bytes16 epoch ++ [0]))
            cmdFlag := false
            rspFlag := false
            extent := 0 }
        ∧ t.eu = s.posting
            ((if restored then [(.linkRestored, 1)] else []) ++ (if fails then [(.sourceChanged, 0x0101#16)] else [])
              ++ [(.lensAttached, epoch)] ++ (if known then [] else [(.noProfile, converter.setWidth 16)])
              ++ [(.responseReady, 0)])
        ∧ (∀ p, t.port p = { s.port p with slots := (t.port p).slots })
        ∧ t = (({ s.touchPosted with
              lst := t.lst
              eu := s.touchPosted.posting
                ((.lensAttached, epoch) :: if known then [] else [(.noProfile, converter.setWidth 16)]) }).testCover.respond .ok
            ([0, if focal = f then 0 else 1] ++ bytes16 epoch ++ [0])))
    ∧ (∀ s : State,
        let timer : Option Word := some (s.time + BitVec.ofNat 32 (1000 * s.config.postedSilence.toNat))
        let restored : State := ({ s with
          lst := { s.lst with postedTimer := timer, postedFresh := true }
          eu := s.posting [(.linkRestored, 1)] }).testCover
        let fails := s.config.autoFailover = true ∧ s.lst.source = .link ∧ s.llr.fresh = false
        (s.lst.postedFresh = true → s.touchPosted = { s with lst := { s.lst with postedTimer := timer } })
          ∧ (s.lst.postedFresh = false → ¬ fails → s.touchPosted = restored)
          ∧ (s.lst.postedFresh = false → fails →
              s.touchPosted = ({ restored with
                lst := { restored.lst with source := .posted }
                eu := restored.posting [(.sourceChanged, 0x0101#16)] }).testCover))
    ∧ ∀ s : State, s.handed 0x10 21 →
        let bad (n : Byte) : Prop := exec .postAttach s = .next (s.respond .badArgument [n])
        (s.arg 10 2 = 0 → bad 3)
          ∧ (1 ≤ s.arg 10 2 → s.arg 12 2 < s.arg 10 2 → bad 4)
          ∧ (1 ≤ s.arg 10 2 → s.arg 10 2 ≤ s.arg 12 2 → 4 ≤ s.arg 14 1 → bad 5)
          ∧ (1 ≤ s.arg 10 2 → s.arg 10 2 ≤ s.arg 12 2 → s.arg 14 1 ≤ 3 → 4096 ≤ s.arg 17 2 → bad 7)

/-- R77, R78, R79, R86, R88: POST_POSITION: an argument out of range is refused; in range: refused without an attached lens;
NOT_CURRENT while the source stays LINK; otherwise a converter change where the code differs, and the sample, each with
the coverage tests of R132. What `touchPosted` does is in `PostAttachFillsTheRecord`. -/
def Obligations.PostPositionEntersASample : Prop :=
  (∀ s : State, s.handed 0x11 11 → s.arg 6 2 ≤ 4095 → s.arg 8 1 ≤ 3 →
      let converter := BitVec.ofNat 2 (s.arg 8 1)
      let sample : Sample := { time := s.time - BitVec.ofNat 32 (s.arg 9 2), focal := s.arg16 4
                               focus := BitVec.ofNat 12 (s.arg 6 2), converter := converter, feed := .posted }
      let restored := s.lst.postedFresh = false
      let fails := restored ∧ s.config.autoFailover = true ∧ s.lst.source = .link ∧ s.llr.fresh = false
      let touched : Tracker := { s.lst with
        source := if fails then .posted else s.lst.source
        postedFresh := true
        postedTimer := some (s.time + BitVec.ofNat 32 (1000 * s.config.postedSilence.toNat)) }
      let early : List (EventKind × Half) :=
        (if restored then [(.linkRestored, 1)] else []) ++ (if fails then [(.sourceChanged, 0x0101#16)] else [])
      (s.attached = false → exec .postPosition s = .next (s.respond .noLens []))
        ∧ ∀ r, s.lst.record = some r → r.presence = .attached →
            ∃ t, exec .postPosition s = .next t
              ∧ t = { s with cp := t.cp, eu := t.eu, lst := t.lst, ports := t.ports }
              ∧ (∀ p, t.port p = { s.port p with slots := (t.port p).slots })
              ∧ (s.lst.source = .link → ¬ fails →
                  t = ({ s.touchPosted with lst := { touched with ignored := satAdd s.lst.ignored 1 } }).respond .ok
                      ([5, 0] ++ bytes16 s.lst.epoch ++ [BitVec.ofNat 8 (s.lst.timeline.length - 1)])
                    ∧ t.lst = { touched with ignored := satAdd s.lst.ignored 1 }
                    ∧ t.cp.rspBox = Memory.holding (responseBytes .ok
                        ([5, 0] ++ bytes16 s.lst.epoch ++ [BitVec.ofNat 8 (s.lst.timeline.length - 1)]))
                    ∧ t.eu = s.posting (early ++ [(.responseReady, 0)]))
              ∧ (s.lst.source = .posted ∨ fails →
                  let before : State := { s with lst := { touched with record := some { r with converter := converter } } }
                  let entered := before.enterSample sample
                  let change := r.converter ≠ converter
                  let known := (s.slotWithKey r.lensId converter).isSome = true ∨ (s.slotWithKey r.lensId 0).isSome = true
                  let changed : State := { s.touchPosted with
                    lst := before.lst
                    eu := s.touchPosted.posting
                      ((.converterChanged, converter.setWidth 16)
                        :: if known then [] else [(.noProfile, converter.setWidth 16)]) }
                  t = ((if change then changed else s.touchPosted).enterSample sample).1.testCover.respond .ok
                      (([match entered.2.1 with | .appended => 2 | .extended => 3 | .late => 4,
                        (if entered.2.2 then 1 else 0) + (if change then 2 else 0)] : List Byte)
                        ++ bytes16 s.lst.epoch ++ [BitVec.ofNat 8 (t.lst.timeline.length - 1)])
                    ∧ t.lst = entered.1.lst
                    ∧ t.cp.rspBox = Memory.holding (responseBytes .ok
                        (([match entered.2.1 with | .appended => 2 | .extended => 3 | .late => 4,
                          (if entered.2.2 then 1 else 0) + (if change then 2 else 0)] : List Byte)
                          ++ bytes16 s.lst.epoch ++ [BitVec.ofNat 8 (t.lst.timeline.length - 1)]))
                    ∧ t.eu = s.posting (early
                        ++ (if change then
                              [(.converterChanged, converter.setWidth 16)]
                                ++ (if known then [] else [(.noProfile, converter.setWidth 16)])
                            else [])
                        ++ [(.responseReady, 0)])))
    ∧ ∀ s : State, s.handed 0x11 11 →
        (4096 ≤ s.arg 6 2 → exec .postPosition s = .next (s.respond .badArgument [2]))
          ∧ (s.arg 6 2 ≤ 4095 → 4 ≤ s.arg 8 1 → exec .postPosition s = .next (s.respond .badArgument [3]))

/-- R74, R86, R89, R132: POST_DETACH. What `touchPosted` does is in `PostAttachFillsTheRecord`. -/
def Obligations.PostDetachKeepsAllButThePresence : Prop :=
  ∀ s : State, s.handed 0x12 6 →
    let restored := s.lst.postedFresh = false
    let fails := restored ∧ s.config.autoFailover = true ∧ s.lst.source = .link ∧ s.llr.fresh = false
    (s.attached = false → exec .postDetach s = .next (s.respond .noLens []))
      ∧ ∀ r, s.lst.record = some r → r.presence = .attached →
          ∃ t, exec .postDetach s = .next t
            ∧ t = { s with cp := t.cp, eu := t.eu, lst := t.lst, ports := t.ports }
            ∧ (∀ p, t.port p = { s.port p with slots := (t.port p).slots })
            ∧ t.lst = { s.lst with
                record := some { r with presence := .detached }
                source := if fails then .posted else s.lst.source
                postedFresh := true
                postedTimer := some (s.time + BitVec.ofNat 32 (1000 * s.config.postedSilence.toNat)) }
            ∧ t.trackerState = .absent
            ∧ t.cp.rspBox = Memory.holding (responseBytes .ok
                ([1, 0] ++ bytes16 s.lst.epoch ++ [BitVec.ofNat 8 (s.lst.timeline.length - 1)]))
            ∧ t.eu = s.posting
                ((if restored then [(.linkRestored, 1)] else [])
                  ++ (if fails then [(.sourceChanged, 0x0101#16)] else [])
                  ++ [(.lensDetached, s.lst.epoch), (.responseReady, 0)])
            ∧ t = (({ s.touchPosted with
                  lst := { s.touchPosted.lst with record := some { r with presence := .detached } }
                  eu := s.touchPosted.posting [(.lensDetached, s.lst.epoch)] }).testCover.respond .ok
                ([1, 0] ++ bytes16 s.lst.epoch ++ [BitVec.ofNat 8 (s.lst.timeline.length - 1)]))

/-! ### Strobes -/

/-- R97 to R104: a strobe: the counter, the record with its off-period mark, the table, the lock machine and its event, and
the port told of it; INIT_BUSY captures none. The loss timer unlocks; stopped or not reached, its command has no effect
(log 3); it is taken up to 2^31 − 1 µs late, and an empty run's first period is 0, the model's choices (log 29, log 39). -/
def Obligations.StrobeIsCountedRecordedAndJudged : Prop :=
  (∀ (s : State) (p : Port),
      let u := s.tsu.get p
      let frame := u.counter + 1
      let side : BitVec 1 := BitVec.ofBool (p == .mp1)
      let table (off : Bool) : List StrobeRecord :=
        (if u.table.length < 8 then u.table else u.table.tail) ++ [⟨frame, s.time, off⟩]
      let captured (off : Bool) (lock : Lock) (es : List (EventKind × Half)) : State :=
        { s with tsu := s.tsu.set p ⟨frame, table off, some s.time, lock⟩, eu := s.posting es }
      let acts (off : Bool) (lock : Lock) (es : List (EventKind × Half)) : Prop :=
        exec (.strobe p) s = .next ((captured off lock es).portStrobe p ⟨frame, s.time, off⟩)
      let inRange (x : Int) : Prop := 1000 ≤ x ∧ x ≤ 2000000
      let started (x : Int) : Run := if inRange x then ⟨x.toNat, 1, x.toNat⟩ else ⟨0, 0, 0⟩
      (s.cp.initBusy = true → exec (.strobe p) s = .next s)
        ∧ (s.cp.initBusy = false → u.previous = none → acts false u.lock [])
        ∧ ∀ before, s.cp.initBusy = false → u.previous = some before →
            let x := timeDiff before s.time
            (∀ r, u.lock = .unlocked r →
                (¬ inRange x → acts false (.unlocked ⟨0, 0, 0⟩) [])
                  ∧ (inRange x → r.count = 0 ∨ (r.first : Int) < |x - r.first| * 64 → acts false (.unlocked (started x)) [])
                  ∧ (inRange x → 1 ≤ r.count → |x - r.first| * 64 ≤ r.first → r.count ≠ 7 →
                      acts false (.unlocked ⟨r.first, r.count + 1, r.sum + x.toNat⟩) [])
                  ∧ (inRange x → |x - r.first| * 64 ≤ r.first → r.count = 7 →
                      let period := (r.sum + x.toNat) / 8
                      acts false (.locked period (s.time + BitVec.ofNat 32 (2 * period)))
                        [(.strobeLocked, side ++ BitVec.ofNat 15 (min 32767 (period / 8)))]))
              ∧ ∀ period timer, u.lock = .locked period timer →
                  (|x - period| * 8 ≤ period → acts false (.locked period (s.time + BitVec.ofNat 32 (2 * period))) [])
                    ∧ ((period : Int) < |x - period| * 8 →
                        acts true (.unlocked (started x)) [(.strobeLost, side ++ 0#15)]))
    ∧ (∀ (s : State) (p : Port),
          (∀ period x, (s.tsu.get p).lock = .locked period x → (s.time - x).toNat < 2 ^ 31 →
            exec (.lossTimerExpiry p) s = .next
              { s with
                tsu := s.tsu.set p { s.tsu.get p with lock := .unlocked ⟨0, 0, 0⟩ }
                eu := s.posting [(.strobeLost, (if p = .mp1 then 0x8000#16 else 0#16))] })
            ∧ (∀ period x, (s.tsu.get p).lock = .locked period x → 2 ^ 31 ≤ (s.time - x).toNat →
                exec (.lossTimerExpiry p) s = .next s)
            ∧ (∀ r, (s.tsu.get p).lock = .unlocked r → exec (.lossTimerExpiry p) s = .next s))

/-- R106, R119, R128, R130, R132, R134, R135: what a port does with a new strobe record: requests waiting for the frame
resolve to READY, or under WAIT_COVER wait for the time of their last row or end that wait at once; and an
ENABLED port in STROBE or STROBE_ONCE makes a request, supersedes one or drops the strobe. -/
def Obligations.StrobeResolvesAndMakesRequests : Prop :=
  ∀ (s : State) (p : Port) (rec' : StrobeRecord),
    let q := s.port p
    let copy : Option StrobeCopy := some ⟨rec'.frame, rec'.time⟩
    let waits (r : Request) : Prop := r.state = .pendingFrame ∧ r.fields.frame = rec'.frame
    let slots := q.slots.map fun r => if waits r then resolveFrame s rec' r else r
    let mode : TriggerMode := match q.config.mode with
      | .strobe => .strobe
      | _ => .command
    let config := { q.config with mode := mode }
    let made (k : Fin 4) : Request :=
      resolveFrame s rec' (newRequest k q.config.template (s.time + BitVec.ofNat 32 (1000 * q.config.waitLimit.toNat)))
    let dropped := satAdd q.dropped 1
    let side : BitVec 1 := BitVec.ofBool (p == .mp1)
    let drops : Prop := s.portStrobe p rec' =
      { s with
        ports := s.ports.set p { q with slots := slots, config := config, dropped := dropped }
        eu := s.posting [(.strobeDropped, side ++ 0#7 ++ dropped.setWidth 8)] }
    (∀ r, (resolveFrame s rec' r).strobe = copy
        ∧ (r.fields.waitCover = false →
            resolveFrame s rec' r
              = { r with strobe := copy, state := .ready, coverIncomplete := false, waitTimer := none })
        ∧ (r.fields.waitCover = true →
            let y := r.fields.y0.toNat + (r.nr - 1) * 2 ^ (4 + r.fields.stepCode.toNat)
            let cover : Word := rec'.time
              + BitVec.ofNat 32 ((min y (s.config.height.toNat - 1) * r.fields.lineTime.toNat + 500) / 1000
                + r.fields.exposure.toNat / 2)
            let covers : Prop := ∃ e, s.lst.timeline.getLast? = some e ∧ earlier e.tLast cover = false
            let ready (incomplete : Bool) : Request :=
              { r with strobe := copy, coverTime := some cover, state := .ready, coverIncomplete := incomplete
                       waitTimer := none }
            (covers → resolveFrame s rec' r = ready false)
              ∧ (¬ covers → s.trackerState = .live →
                  resolveFrame s rec' r = { r with strobe := copy, coverTime := some cover, state := .pendingCover })
              ∧ (¬ covers → s.trackerState ≠ .live → resolveFrame s rec' r = ready true)))
      ∧ (q.config.enabled = false ∨ q.config.mode = .command →
          s.portStrobe p rec' = { s with ports := s.ports.set p { q with slots := slots } })
      ∧ (q.config.enabled = true → q.config.mode ≠ .command →
          (8 ≤ q.placesUsed → drops)
            ∧ (q.placesUsed < 8 → ∀ k : Fin 4, (∀ r ∈ q.slots, r.slot ≠ k) → (∀ j < k, ∃ r ∈ q.slots, r.slot = j) →
                s.portStrobe p rec'
                  = { s with ports := s.ports.set p { q with slots := slots ++ [made k], config := config } })
            ∧ (q.placesUsed < 8 → (∀ k : Fin 4, ∃ r ∈ q.slots, r.slot = k) → q.config.policy = .dropNew → drops)
            ∧ (q.placesUsed < 8 → (∀ k : Fin 4, ∃ r ∈ q.slots, r.slot = k) → q.config.policy = .replaceOldest →
                ∀ r, (slots.find? fun x => x.state != .inEngine) = some r →
                  s.portStrobe p rec'
                    = { s with
                        ports := s.ports.set p
                          { q with
                            slots := (slots.filter fun x => x.slot != r.slot) ++ [made r.slot]
                            replies := q.replies ++ [⟨.superseded, 0, r.fields.tag, r.refuseFrame⟩]
                            config := config } }))

/-! ### Mesh ports -/

/-- R107, R122, R123, R124, R127, R128, R129, R131, R193: where the fields of a record's eight words stand, and a record
that passes every check: it is accepted into the lowest free slot, as the youngest of the port, its frame looked up. -/
def Obligations.RequestRecordIsAccepted : Prop :=
  (∀ w0 w1 w2 w3 w4 w5 w6 w7 : Word,
    RequestFields.ofWords [w0, w1, w2, w3, w4, w5, w6, w7] =
      { tag := w0.extractLsb' 16 16, frame := w0.extractLsb' 0 16
        expectedGen := w1.extractLsb' 24 8, stepCode := w1.extractLsb' 22 2
        fillMode := match (w1.extractLsb' 20 2).toNat with
          | 0 => .profile
          | 2 => .fixed
          | _ => .unity
        latest := w1.getLsbD 4, requireProfile := w1.getLsbD 3, strictGen := w1.getLsbD 2
        waitCover := w1.getLsbD 1, rgb := w1.getLsbD 0
        x0 := w2.extractLsb' 16 16, y0 := w2.extractLsb' 0 16
        width := w3.extractLsb' 16 16, height := w3.extractLsb' 0 16
        lineTime := w4.extractLsb' 0 16, exposure := w5, fixedFill := w6 }) ∧
  ∀ (s : State) (p : Port) (w : Word) (k : Fin 4),
    let q := s.port p
    let u := s.tsu.get p
    let f := RequestFields.ofWords (q.gathered ++ [w])
    let step : Nat := 2 ^ (4 + f.stepCode.toNat)
    let nc := (f.width.toNat + step - 1) / step + 1
    let nr := (f.height.toNat + step - 1) / step + 1
    s.cp.initBusy = false → q.gathered.length = 7 → q.config.enabled = true → q.config.mode = .command →
    f.width ≠ 0 → f.height ≠ 0 → f.x0.toNat + f.width.toNat ≤ s.config.width.toNat →
    f.y0.toNat + f.height.toNat ≤ s.config.height.toNat → nc ≤ 257 → nr ≤ 193 → nc * nr ≤ 16384 →
    (∀ r ∈ q.slots, r.slot ≠ k) → (∀ j < k, ∃ r ∈ q.slots, r.slot = j) →
    let fixed := max 524288 (min 2097152 f.fixedFill.toInt)
    let request : Request :=
      { slot := k
        fields := { f with
          exposure := BitVec.ofNat 32 (min 1000000 f.exposure.toNat)
          fixedFill := if f.fillMode = .fixed then BitVec.ofInt 32 fixed else f.fixedFill }
        fillClamped := f.fillMode == .fixed && decide (fixed ≠ f.fixedFill.toInt)
        nc := nc
        nr := nr
        strobe := none
        coverTime := none
        coverIncomplete := false
        waitTimer := some (s.time + BitVec.ofNat 32 (1000 * q.config.waitLimit.toNat))
        state := .pendingFrame }
    let accepts (r : Request) : Prop :=
      exec (.requestRecord p w) s = .next { s with ports := s.ports.set p { q with gathered := [], slots := q.slots ++ [r] } }
    (∀ r, f.latest = true → u.table.getLast? = some r → accepts (resolveFrame s r request))
      ∧ (∀ r, f.latest = false → (u.table.find? fun x => x.frame == f.frame) = some r →
          accepts (resolveFrame s r request))
      ∧ (f.latest = false → (∀ r ∈ u.table, r.frame ≠ f.frame) → 1 ≤ (f.frame - u.counter).toNat →
          (f.frame - u.counter).toNat ≤ 8 → accepts request)

/-- R122, R124, R126, R129: a record that fails a check is refused with the code of the first it fails. The codes
of R194, and the frame number that a request in a slot gives its refuse record. -/
def Obligations.RequestRecordIsRefusedByTheFirstFailingCheck : Prop :=
  ([RefusalCode.portDisabled, .mode, .badWindow, .badGrid, .queueFull, .frameUnknown, .frameTimeout, .superseded,
      .genMismatch, .noProfile].map RefusalCode.code = [1, 2, 3, 4, 5, 6, 7, 8, 9, 10]) ∧
  (∀ r : Request,
    (∀ c, r.strobe = some c → r.refuseFrame = c.frame)
      ∧ (r.strobe = none → r.fields.latest = true → r.refuseFrame = 0)
      ∧ (r.strobe = none → r.fields.latest = false → r.refuseFrame = r.fields.frame)) ∧
  ∀ (s : State) (p : Port) (w : Word),
    let q := s.port p
    let u := s.tsu.get p
    let f := RequestFields.ofWords (q.gathered ++ [w])
    let step : Nat := 2 ^ (4 + f.stepCode.toNat)
    let nc := (f.width.toNat + step - 1) / step + 1
    let nr := (f.height.toNat + step - 1) / step + 1
    let disabled : Prop := q.config.enabled = false
    let mode : Prop := q.config.mode ≠ .command
    let window : Prop := f.width = 0 ∨ f.height = 0 ∨ s.config.width.toNat < f.x0.toNat + f.width.toNat
      ∨ s.config.height.toNat < f.y0.toNat + f.height.toNat
    let grid : Prop := 257 < nc ∨ 193 < nr ∨ 16384 < nc * nr
    let full : Prop := ∀ k : Fin 4, ∃ r ∈ q.slots, r.slot = k
    let unknown : Prop :=
      (f.latest = true ∧ u.table = [])
        ∨ (f.latest = false ∧ (∀ r ∈ u.table, r.frame ≠ f.frame)
            ∧ ((f.frame - u.counter).toNat = 0 ∨ 9 ≤ (f.frame - u.counter).toNat))
    let refused (code : RefusalCode) : Prop :=
      exec (.requestRecord p w) s = .next
        { s with
          ports := s.ports.set p
            { q with
              gathered := []
              replies := q.replies ++ [⟨code, 0, f.tag, if f.latest then 0 else f.frame⟩] } }
    s.cp.initBusy = false → q.gathered.length = 7 →
      (disabled → refused .portDisabled)
        ∧ (¬ disabled → mode → refused .mode)
        ∧ (¬ disabled → ¬ mode → window → refused .badWindow)
        ∧ (¬ disabled → ¬ mode → ¬ window → grid → refused .badGrid)
        ∧ (¬ disabled → ¬ mode → ¬ window → ¬ grid → full → refused .queueFull)
        ∧ (¬ disabled → ¬ mode → ¬ window → ¬ grid → ¬ full → unknown → refused .frameUnknown)

/-- R125, R126, R131: the wait timer of a request expires. Stopped, not reached, or of a request that waits no more, it
has no effect (log 3); an expiry is taken up to 2^31 − 1 µs late, the model's choice (log 29). -/
def Obligations.WaitTimerRefusesOrEndsTheWait : Prop :=
  ∀ (s : State) (p : Port) (r : Request) (older younger : List Request),
    let q := s.port p
    q.slots = older ++ r :: younger → (∀ x ∈ older ++ younger, x.slot ≠ r.slot) →
      (∀ x, r.waitTimer = some x → (s.time - x).toNat < 2 ^ 31 →
        (r.state = .pendingFrame →
          exec (.waitTimerExpiry p r.slot) s = .next
            { s with
              ports := s.ports.set p
                { q with
                  slots := older ++ younger
                  replies := q.replies ++ [⟨.frameTimeout, 0, r.fields.tag, r.refuseFrame⟩] } })
          ∧ (r.state = .pendingCover →
              exec (.waitTimerExpiry p r.slot) s = .next
                { s with
                  ports := s.ports.set p
                    { q with
                      slots := older
                        ++ { r with state := .ready, coverIncomplete := true, waitTimer := none } :: younger } }))
        ∧ (r.waitTimer = none ∨ r.state = .ready ∨ r.state = .inEngine →
            exec (.waitTimerExpiry p r.slot) s = .next s)
        ∧ (∀ x, r.waitTimer = some x → 2 ^ 31 ≤ (s.time - x).toNat → exec (.waitTimerExpiry p r.slot) s = .next s)

/-- R122, R125, R126, R138, R139, R194: a word before a record's eighth passes while ready is raised, and not otherwise; a
word leaves the FIFO; a refuse record moves into it whole when no mesh of the port is in progress and at most 1021
words stand after it, and not before. The places of the reply queue in use are its records, one for each occupied slot
and one for a record being taken. -/
def Obligations.WordsAndRefuseRecordsMoveAsTheRoomAllows : Prop :=
  (∀ (s : State) (p : Port) (w : Word),
      let q := s.port p
      q.placesUsed = q.replies.length + q.slots.length + (if q.gathered = [] then 0 else 1) ∧
      (s.cp.initBusy = false → (q.gathered = [] ∧ q.placesUsed < 8 ∨ 1 ≤ q.gathered.length ∧ q.gathered.length ≤ 6) →
        exec (.requestWordTaken p w) s = .next { s with ports := s.ports.set p { q with gathered := q.gathered ++ [w] } })
        ∧ (s.cp.initBusy = true ∨ (q.gathered = [] ∧ 8 ≤ q.placesUsed) →
            exec (.requestWordTaken p w) s = .next s))
    ∧ (∀ (s : State) (p : Port),
          let q := s.port p
          (∀ w ws, q.fifo = w :: ws →
            s.meshData p = some w ∧ exec (.wordTaken p) s = .next { s with ports := s.ports.set p { q with fifo := ws } })
            ∧ (q.fifo = [] → s.meshValid p = false ∧ exec (.wordTaken p) s = .next s)
            ∧ (∀ r rs, q.replies = r :: rs →
                (s.inProgress p = false → q.fifo.length + 2 ≤ 1021 →
                  exec (.refuseRecordMove p) s = .next
                    { s with
                      ports := s.ports.set p
                        { q with
                          replies := rs
                          fifo := q.fifo
                            ++ [0x4#4 ++ BitVec.ofNat 4 r.code.code ++ r.generation ++ r.tag, r.frame ++ 0#16] } })
                  ∧ (s.inProgress p = true ∨ 1020 ≤ q.fifo.length → exec (.refuseRecordMove p) s = .next s)))

/-! ### Mesh engine -/

/-- R133, R142, R145, R146: when a grant point exists, and which port the arbiter grants there; without one
GRANT has no effect (log 3). -/
def Obligations.ArbiterGrantsByPriority : Prop :=
  ∀ s : State,
    let offers (p : Port) : Prop :=
      ∃ r rest, (s.port p).slots = r :: rest ∧ r.state = .ready ∧ (s.port p).fifo.length ≤ 1021
    let point : Prop := s.me.mesh = none ∧ s.me.runState ≠ .hold
    (¬ point ∨ (¬ offers .mp0 ∧ ¬ offers .mp1) → s.grantPort = none ∧ exec .grant s = .next s)
      ∧ (point → ∀ p, offers p → ¬ offers (portOther p) → s.grantPort = some p)
      ∧ (point → offers .mp0 → offers .mp1 →
          (s.config.priority = .none → s.grantPort = some (portOther s.me.lastGranted))
            ∧ ∀ p, (s.config.priority = .mp0 ∧ p = .mp0) ∨ (s.config.priority = .mp1 ∧ p = .mp1) →
                (s.me.lastGranted ≠ p ∨ s.me.consecutive < s.config.consecutiveLimit → s.grantPort = some p)
                  ∧ (s.me.lastGranted = p → s.config.consecutiveLimit ≤ s.me.consecutive →
                      s.grantPort = some (portOther p)))

/-- R23, R45, R46: the slot that holds a key, and the profile chosen at a bind. -/
def Obligations.BindChoosesTheFirstCaseThatApplies : Prop :=
  ∀ (s : State) (converter : BitVec 2),
    (∀ (id : Word) (c : BitVec 2) (k : Fin 16), s.slotWithKey id c = some k →
      s.key? k = some (id, c) ∧ ∀ j < k, s.key? j ≠ some (id, c))
      ∧ (∀ (id : Word) (c : BitVec 2), s.slotWithKey id c = none → ∀ k, s.key? k ≠ some (id, c))
      ∧ (∀ k p, s.lst.override = some k → s.profile? k = some p →
          s.bind converter = ⟨.overridden, some k, s.generation k, p.header.lensId, p.header.converter⟩)
      ∧ (s.lst.override = none →
          (∀ r k, s.lst.record = some r → s.slotWithKey r.lensId converter = some k →
            s.bind converter = ⟨.exact, some k, s.generation k, r.lensId, converter⟩)
          ∧ (∀ r k, s.lst.record = some r → s.slotWithKey r.lensId converter = none →
              s.slotWithKey r.lensId 0 = some k →
              s.bind converter = ⟨.fallbackBase, some k, s.generation k, r.lensId, 0⟩)
          ∧ (∀ r, s.lst.record = some r → s.slotWithKey r.lensId converter = none →
              s.slotWithKey r.lensId 0 = none → s.bind converter = ⟨.noProfile, none, 0, r.lensId, converter⟩)
          ∧ (s.lst.record = none → s.bind converter = ⟨.noProfile, none, 0, 0, converter⟩))

/-- R3, R5, R15, R19, R20, R21, R106, R118, R153, R154, R194: the unit of the row at the cursor: an identity row
after a change of epoch or without a profile, a computed row otherwise. -/
def Obligations.RowIsDecidedWhenItIsReached : Prop :=
  ∀ (s : State) (m : Mesh),
    let f := m.request.fields
    let step : Nat := 2 ^ (4 + f.stepCode.toNat)
    let y := f.y0.toNat + m.cursor * step
    let t : Word := (m.request.strobe.map (·.time)).getD 0
      + BitVec.ofNat 32 ((min y (s.config.height.toNat - 1) * f.lineTime.toNat + 500) / 1000 + f.exposure.toNat / 2)
    let row : BitVec 8 := BitVec.ofNat 8 m.cursor
    let bit (x : Bool) : BitVec 1 := BitVec.ofBool x
    let zeros : List Word := List.replicate (if f.rgb then 3 * m.request.nc else m.request.nc) 0
    let x := resolve s.lst.timeline s.config.holdLimit t
    let state : Word := x.lens.focal ++ 0#4 ++ x.lens.focus
    (m.epochChanged = true →
      s.rowUnit m = { words := [0x204000#24 ++ row, t, 0] ++ zeros, isRow := true, saturated := 0, flagged := true })
      ∧ (m.epochChanged = false → m.binding.slot = none →
          s.rowUnit m =
            { words :=
                [0x2#4 ++ bit x.flags.noState ++ bit x.flags.beforeHistory ++ bit x.flags.held
                    ++ bit x.flags.heldStale ++ 1#1 ++ bit x.flags.epochChanged ++ bit x.flags.outsideGrid
                    ++ bit x.flags.converterMismatch ++ bit x.flags.saturated ++ 0#9 ++ x.lens.converter ++ row,
                  t, state] ++ zeros
              isRow := true, saturated := 0, flagged := true })
      ∧ (∀ k p, m.epochChanged = false → m.binding.slot = some k → s.profile? k = some p →
          let c := rowCoeffs p x.lens.focal.toNat x.lens.focus.toNat
          let scale : Int := match f.fillMode with
            | .profile => c.1.fill
            | .unity => 1048576
            | .fixed => f.fixedFill.toInt
          let node (i : Nat) : List Word × Bool :=
            evalNode f.rgb p.header.rn16.toNat c.1 scale
              (16 * ((f.x0.toNat : Int) + i * step) - (m.centre.getD (0, 0)).1)
              (16 * (y : Int) - (m.centre.getD (0, 0)).2)
          let marked := ((List.range m.request.nc).map node).countP (·.2)
          let mismatch := x.lens.converter != m.binding.converter
          s.rowUnit m =
            { words :=
                [0x2#4 ++ bit x.flags.noState ++ bit x.flags.beforeHistory ++ bit x.flags.held
                    ++ bit x.flags.heldStale ++ bit x.flags.noProfile ++ bit x.flags.epochChanged ++ bit c.2
                    ++ bit mismatch ++ bit (decide (1 ≤ marked)) ++ 0#9 ++ x.lens.converter ++ row,
                  t, state] ++ (List.range m.request.nc).flatMap fun i => (node i).1
              isRow := true
              saturated := marked
              flagged := x.flags.noState || x.flags.beforeHistory || x.flags.held || x.flags.heldStale
                || x.flags.noProfile || x.flags.epochChanged || c.2 || mismatch || decide (1 ≤ marked) })
      ∧ (x.flags.noProfile = false ∧ x.flags.epochChanged = false ∧ x.flags.outsideGrid = false
          ∧ x.flags.converterMismatch = false ∧ x.flags.saturated = false)

/-- R152, R153, R155, R156, R157, R194: UNIT_PLACE: a unit that fits enters whole and the next row is reached, or
after the last row the trailer is placed and the mesh released, an operation pending on the bound slot applied as
`StallExpiryAbandonsAndReleases` has it; a unit that does not fit waits. -/
def Obligations.UnitIsPlacedWholeOnceItFits : Prop :=
  ∀ (s : State) (m : Mesh),
    let q := s.port m.port
    let done : Mesh := { m with
      cursor := if m.unit.isRow then m.cursor + 1 else m.cursor
      nodes := if m.unit.isRow then m.nodes + m.request.nc else m.nodes
      saturated := if m.unit.isRow then m.saturated + m.unit.saturated else m.saturated
      flagged := if m.unit.isRow ∧ m.unit.flagged then m.flagged + 1 else m.flagged
      stallTimer := none }
    let next : Mesh := { done with epochChanged := m.epochChanged || s.lst.epoch != m.epoch }
    let u := s.rowUnit next
    let trailer : List Word :=
      [ 0x3#4 ++ (if m.epochChanged then 1#2 else 0#2) ++ 0#10 ++ m.request.fields.tag,
        BitVec.ofNat 16 done.nodes ++ BitVec.ofNat 16 done.saturated, 0#24 ++ BitVec.ofNat 8 done.flagged ]
    s.me.mesh = some m →
      (1021 < q.fifo.length + m.unit.words.length → exec .unitPlace s = .next s)
        ∧ (q.fifo.length + m.unit.words.length ≤ 1021 → done.cursor < m.request.nr →
            exec .unitPlace s = .next
              { s with
                ports := s.ports.set m.port { q with fifo := q.fifo ++ m.unit.words }
                me := { s.me with
                  mesh := some { next with
                    unit := u
                    stallTimer :=
                      if q.fifo.length + m.unit.words.length + u.words.length ≤ 1021 then none
                      else some (s.time + BitVec.ofNat 32 (1000 * m.stallLimit.toNat)) } } })
        ∧ (q.fifo.length + m.unit.words.length ≤ 1021 → m.request.nr ≤ done.cursor → s.store.pendingOp = none →
            exec .unitPlace s = .next
              { s with
                ports := s.ports.set m.port
                  { q with
                    slots := q.slots.filter fun x => x.slot != m.request.slot
                    fifo := q.fifo ++ m.unit.words ++ trailer }
                store := { s.store with boundSlot := none }
                me := { s.me with mesh := none } })
        ∧ (q.fifo.length + m.unit.words.length ≤ 1021 → m.request.nr ≤ done.cursor →
            exec .unitPlace s = .next
              (({ s with ports := s.ports.set m.port { q with fifo := q.fifo ++ m.unit.words ++ trailer } }).release
                m.port m.request.slot))

/-- R2, R25, R109, R125, R126, R144, R147, R149, R150, R151, R152, R156, R157, R194: a grant: the arbiter's memory, the bind,
and then the header placed at once where it fits with row 0 reached, or the wait; or the refusal at the bind, the
engine idle. A store without a mesh holds no pending operation (`StoreStaysSound`). -/
def Obligations.GrantBindsThenPlacesOrRefuses : Prop :=
  (∀ (s : State) (p : Port) (r : Request) (rest : List Request),
      let q := s.port p
      let t0 : Word := (r.strobe.map (·.time)).getD 0
      let b := s.bind (resolve s.lst.timeline s.config.holdLimit
        (rowTime r.fields s.config.height t0 ((r.nr - 1) / 2))).lens.converter
      let bit (x : Bool) : BitVec 1 := BitVec.ofBool x
      let header : List Word :=
        [ 0x1#4 ++ bit (b.choice == .overridden) ++ bit (b.choice == .fallbackBase) ++ bit (b.choice == .noProfile)
            ++ bit r.coverIncomplete ++ bit r.fillClamped ++ bit r.fields.rgb
            ++ BitVec.ofNat 2 r.fields.fillMode.code ++ r.fields.stepCode ++ 0#2 ++ r.fields.tag,
          (r.strobe.map (·.frame)).getD 0 ++ b.generation ++ s.lst.epoch.setWidth 8,
          b.lensId,
          BitVec.ofNat 4 ((b.slot.map (·.val)).getD 0) ++ b.converter ++ 0#2 ++ BitVec.ofNat 12 r.nc
            ++ BitVec.ofNat 12 r.nr ]
      let centre : Option (Int × Int) := (b.slot.bind s.profile?).map fun x =>
        (8 * ((s.config.width.toNat : Int) - 1) + x.header.ox.toInt,
          8 * ((s.config.height.toNat : Int) - 1) + x.header.oy.toInt)
      let mesh (u : MeshUnit) (timer : Option Word) : Mesh :=
        { port := p, request := { r with state := .inEngine }, stallLimit := q.config.stallLimit
          epoch := s.lst.epoch, binding := b, centre := centre, cursor := 0, epochChanged := false
          nodes := 0, saturated := 0, flagged := 0, unit := u, stallTimer := timer }
      let headerUnit : MeshUnit := { words := header, isRow := false, saturated := 0, flagged := false }
      let row0 := s.rowUnit (mesh headerUnit none)
      let stall : Word := s.time + BitVec.ofNat 32 (1000 * q.config.stallLimit.toNat)
      let after (fifo : List Word) (m : Mesh) : State :=
        { s with
          ports := s.ports.set p { q with slots := { r with state := .inEngine } :: rest, fifo := fifo }
          store := { s.store with boundSlot := b.slot }
          me := { runState := if s.me.runState = .step then .hold else s.me.runState
                  lastGranted := p
                  consecutive := if s.me.lastGranted = p then min 15 (s.me.consecutive + 1) else 1
                  mesh := some m } }
      s.grantPort = some p → q.slots = r :: rest → (∀ x ∈ rest, x.slot ≠ r.slot) → 1 ≤ r.nr →
      (∀ k, b.slot = some k → r.fields.strictGen = true → r.fields.expectedGen = b.generation) →
      (b.slot = none → r.fields.requireProfile = false) →
        (q.fifo.length + 4 ≤ 1021 →
          exec .grant s = .next (after (q.fifo ++ header)
            (mesh row0 (if q.fifo.length + 4 + row0.words.length ≤ 1021 then none else some stall))))
          ∧ (1021 < q.fifo.length + 4 → exec .grant s = .next (after q.fifo (mesh headerUnit (some stall)))))
    ∧ (∀ (s : State) (p : Port) (r : Request) (rest : List Request),
          let q := s.port p
          let b := s.bind (resolve s.lst.timeline s.config.holdLimit
            (rowTime r.fields s.config.height ((r.strobe.map (·.time)).getD 0) ((r.nr - 1) / 2))).lens.converter
          let refused (code : RefusalCode) (generation : Byte) : Prop :=
            exec .grant s = .next
              { s with
                ports := s.ports.set p
                  { q with slots := rest, replies := q.replies ++ [⟨code, generation, r.fields.tag, r.refuseFrame⟩] }
                store := { s.store with boundSlot := none }
                me := { runState := if s.me.runState = .step then .hold else s.me.runState
                        lastGranted := p
                        consecutive := if s.me.lastGranted = p then min 15 (s.me.consecutive + 1) else 1
                        mesh := none } }
          s.grantPort = some p → q.slots = r :: rest → (∀ x ∈ rest, x.slot ≠ r.slot) → s.store.pendingOp = none →
            (∀ k, b.slot = some k → r.fields.strictGen = true → r.fields.expectedGen ≠ b.generation →
              refused .genMismatch b.generation)
              ∧ (b.slot = none → r.fields.requireProfile = true → refused .noProfile 0))

/-- R25, R28, R34, R36, R39, R152, R155, R156, R157, R158, R194: what a release does to the port, the store and the engine, with
the operation pending on the bound slot; and the expiry of the stall timer: a trailer ABANDONED with the counts of the
units placed, MESH_ABANDONED, the release. A unit for which there is room by then is not abandoned. Stopped or not
reached, the timer has no effect (log 3); an expiry is taken up to 2^31 − 1 µs late, the model's choice (log 29). -/
def Obligations.StallExpiryAbandonsAndReleases : Prop :=
  (∀ (s : State) (p : Port) (j : Fin 4),
      let freed : State := { s with
        ports := s.ports.set p { s.port p with slots := (s.port p).slots.filter fun x => x.slot != j }
        me := { s.me with mesh := none } }
      (s.store.pendingOp = none → s.release p j = { freed with store := { s.store with boundSlot := none } })
        ∧ (∀ (k : Fin 16) (c : Staged), s.store.pendingOp = some (.commit k) → s.store.boundSlot = some k →
            s.store.staging = .committing c →
            s.release p j = { freed with
              store := { slots := s.store.slots.set k ⟨s.generation k + 1, some c.profile⟩, staging := .closed
                         pendingOp := none, boundSlot := none }
              eu := s.posting [(.profileApplied, (s.generation k + 1) ++ 0#4 ++ BitVec.ofNat 4 k.val)] })
        ∧ (∀ k : Fin 16, s.store.pendingOp = some (.delete k) → s.store.boundSlot = some k →
            s.release p j = { freed with
              store := { slots := s.store.slots.set k ⟨s.generation k, none⟩, staging := s.store.staging
                         pendingOp := none, boundSlot := none }
              lst := { s.lst with override := if s.lst.override = some k then none else s.lst.override }
              eu := s.posting [(.profileApplied, s.generation k ++ 0x1#4 ++ BitVec.ofNat 4 k.val)] }))
    ∧ (∀ (s : State) (m : Mesh), s.me.mesh = some m →
          let q := s.port m.port
          let side : BitVec 1 := BitVec.ofBool (m.port == .mp1)
          let trailer : List Word :=
            [ 0x3#4 ++ 2#2 ++ 0#10 ++ m.request.fields.tag, BitVec.ofNat 16 m.nodes ++ BitVec.ofNat 16 m.saturated,
              0#24 ++ BitVec.ofNat 8 m.flagged ]
          let closed : State := { s with
            ports := s.ports.set m.port { q with fifo := q.fifo ++ trailer }
            eu := s.posting [(.meshAbandoned, side ++ 0#7 ++ m.request.fields.tag.setWidth 8)] }
          (∀ x, m.stallTimer = some x → (s.time - x).toNat < 2 ^ 31 → 1021 < q.fifo.length + m.unit.words.length →
            exec .stallExpiry s = .next (closed.release m.port m.request.slot))
            ∧ (q.fifo.length + m.unit.words.length ≤ 1021 → exec .stallExpiry s = .next s)
            ∧ (∀ x, m.stallTimer = some x → 2 ^ 31 ≤ (s.time - x).toNat → exec .stallExpiry s = .next s)
            ∧ (m.stallTimer = none → exec .stallExpiry s = .next s))

/-! ### Direct items and mailboxes -/

/-- R163, R185, R186, R195: a read of EVENT_POP: the value taken at the address byte, the removal and the latch of the
time at the fourth data byte, nothing where the transaction is cut short; the kind codes. miso is the model's record
of the bytes driven (log 9). -/
def Obligations.EventPopRemovesTheEventItReturned : Prop :=
  ([EventKind.resetDone, .lensAttached, .lensDetached, .converterChanged, .noProfile, .linkSilent, .linkRestored,
      .sourceChanged, .linkErrors, .linkGap, .profileApplied, .strobeLocked, .strobeLost, .strobeDropped,
      .meshAbandoned, .responseReady].map EventKind.code
    = [1, 2, 3, 4, 5, 6, 7, 8, 9, 10, 11, 12, 13, 14, 15, 16]) ∧
  ∀ s : State, s.cp.hold = .released →
    (∀ e es, s.eu.queue = e :: es →
      let value : Word := 0#8 ++ BitVec.ofNat 8 e.kind.code ++ e.param
      let out : List Byte := [0, BitVec.ofNat 8 e.kind.code, e.param.extractLsb' 8 8, e.param.extractLsb' 0 8]
      exec (.eventPop .whole) s = .next
          { s with
            eu := { s.eu with queue := es, eventTime := e.time }
            cp := { s.cp with latch := none, miso := out } }
        ∧ exec (.eventPop .address) s = .next
            { s with cp := { s.cp with latch := some ⟨.eventPop, value, true⟩, miso := out } })
      ∧ (s.eu.queue = [] →
          exec (.eventPop .whole) s = .next { s with cp := { s.cp with latch := none, miso := [0, 0, 0, 0] } }
            ∧ exec (.eventPop .address) s = .next
                { s with cp := { s.cp with latch := some ⟨.eventPop, 0, false⟩, miso := [0, 0, 0, 0] } })
      ∧ (∀ e es v, s.eu.queue = e :: es → s.cp.latch = some ⟨.eventPop, v, true⟩ →
          exec (.eventPop .finish) s = .next
            { s with eu := { s.eu with queue := es, eventTime := e.time }, cp := { s.cp with latch := none } })
      ∧ (∀ v, s.cp.latch = some ⟨.eventPop, v, false⟩ →
          exec (.eventPop .finish) s = .next { s with cp := { s.cp with latch := none } })
      ∧ exec (.eventPop .cut) s = .next { s with cp := { s.cp with latch := none } }

/-- R163, R187, R195: a read of SUMMARY returns the summary, the overflow flag and ACCESS_VIOLATION, and clears
what it returned set when its fourth data byte has been clocked out. miso is the model's record of the bytes driven
(log 9). -/
def Obligations.SummaryClearsWhatItReturned : Prop :=
  ∀ s : State, s.cp.hold = .released →
    let bit (x : Bool) : BitVec 1 := BitVec.ofBool x
    let value : Word := bit s.eu.overflow ++ bit s.eu.accessViolation ++ 0#13 ++ s.eu.summary.extractLsb' 1 16 ++ 0#1
    let out : List Byte := [value.extractLsb' 24 8, value.extractLsb' 16 8, value.extractLsb' 8 8, value.extractLsb' 0 8]
    (s.eu.summary.getLsbD 0 = false →
      exec (.summary .whole) s = .next
        { s with
          eu := { s.eu with summary := 0, overflow := false, accessViolation := false }
          cp := { s.cp with latch := none, miso := out } })
      ∧ exec (.summary .address) s = .next
          { s with cp := { s.cp with latch := some ⟨.summary, value, !s.eu.queue.isEmpty⟩, miso := out } }
      ∧ (∀ v live, s.cp.latch = some ⟨.summary, v, live⟩ →
          ∃ t, exec (.summary .finish) s = .next t
            ∧ t = { s with eu := t.eu, cp := { s.cp with latch := none } }
            ∧ t.eu = { s.eu with summary := t.eu.summary, overflow := t.eu.overflow
                                 accessViolation := t.eu.accessViolation }
            ∧ (∀ n, n < 17 → t.eu.summary.getLsbD n = (s.eu.summary.getLsbD n && !v.getLsbD n))
            ∧ t.eu.overflow = (s.eu.overflow && !v.getLsbD 31)
            ∧ t.eu.accessViolation = (s.eu.accessViolation && !v.getLsbD 30))
      ∧ exec (.summary .cut) s = .next { s with cp := { s.cp with latch := none } }

/-- R96, R162, R163, R165, R169, R170, R181, R192, R195: the items' values, STATUS among them, and the bytes that a
read drives on MISO: four, most significant first, 0 after them, 0 in the transaction's first byte; driven only while
CSn is low and the part is out of reset. The writes of MAILBOX_FLAGS and MAILBOX_SELECT, the writes that are ignored,
and the rows that a whole transaction's bytes amount to (log 8). MISO under a write's data bytes is any `free` byte
(log 38). A term whose address takes writes is no ignored write and is refused (log 22). -/
def Obligations.ItemsAreReadAndWritten : Prop :=
  (∀ s : State,
      let status := s.readItem 0x01#7
      let mode (m : TriggerMode) : BitVec 2 := match m with
        | .command => 0
        | .strobe => 1
        | .strobeOnce => 2
      let locked (l : Lock) : Bool := match l with
        | .unlocked _ => false
        | .locked _ _ => true
      (status.getLsbD 31 = s.cp.initBusy
        ∧ (status.extractLsb' 29 2 = match s.cp.resetCause with
            | .powerOn => 0
            | .pin => 1
            | .core => 2)
        ∧ (status.extractLsb' 27 2 = match s.trackerState with
            | .absent => 0
            | .live => 1
            | .silent => 2)
        ∧ status.getLsbD 26 = (s.lst.source == .posted)
        ∧ status.getLsbD 25 = s.llr.fresh ∧ status.getLsbD 24 = s.lst.postedFresh
        ∧ (status.extractLsb' 22 2 = match s.me.runState with
            | .run => 0
            | .hold => 1
            | .step => 2)
        ∧ status.getLsbD 21 = s.me.mesh.isSome
        ∧ status.getLsbD 20 = (s.me.mesh.map (·.port) == some .mp1)
        ∧ status.getLsbD 19 = s.ports.mp1.config.enabled ∧ status.getLsbD 18 = s.ports.mp0.config.enabled
        ∧ status.extractLsb' 16 2 = mode s.ports.mp1.config.mode
        ∧ status.extractLsb' 14 2 = mode s.ports.mp0.config.mode
        ∧ status.getLsbD 13 = locked s.tsu.mp1.lock ∧ status.getLsbD 12 = locked s.tsu.mp0.lock
        ∧ (status.extractLsb' 10 2 = match s.store.staging with
            | .closed => 0
            | .opened _ => 1
            | .committing _ => 2)
        ∧ (status.extractLsb' 8 2 = match s.store.pendingOp with
            | none => 0
            | some (.commit _) => 1
            | some (.delete _) => 2)
        ∧ status.getLsbD 7 = s.eu.overflow ∧ status.extractLsb' 0 7 = 0)
      ∧ s.readItem 0x02#7 = s.time ∧ s.readItem 0x04#7 = s.eu.eventTime
      ∧ s.readItem 0x08#7 = 0#30 ++ BitVec.ofBool s.cp.rspFlag ++ BitVec.ofBool s.cp.cmdFlag
      ∧ s.readItem 0x09#7 = BitVec.ofBool (s.cp.select == .response) ++ 0#22 ++ BitVec.ofNat 9 s.cp.offset
      ∧ ∀ a : BitVec 7, a ∉ [0x00#7, 0x01#7, 0x02#7, 0x03#7, 0x04#7, 0x05#7, 0x08#7, 0x09#7, 0x0A#7] → s.readItem a = 0)
    ∧ (∀ (s : State) (n : Nat),
        (∀ a : BitVec 7, a ≠ 0x0A#7 →
          let v := s.readItem a
          (s.readOut a n).length = n ∧ ∀ i < n, (s.readOut a n).getD i 0 =
            [v.extractLsb' 24 8, v.extractLsb' 16 8, v.extractLsb' 8 8, v.extractLsb' 0 8].getD i 0)
        ∧ (let owned : Bool := match s.cp.select with
            | .command => s.cp.cmdFlag
            | .response => s.cp.rspFlag
           let box := match s.cp.select with
            | .command => s.cp.cmdBox
            | .response => s.cp.rspBox
           (s.readOut 0x0A#7 n).length = n ∧ ∀ i < n, (s.readOut 0x0A#7 n).getD i 0 =
            if owned ∨ 256 ≤ s.cp.offset + i then 0 else box.read (s.cp.offset + i)))
    ∧ (∀ (s : State) (free : Nat → Byte) (csnLow : Bool) (first : Byte) (data : List Byte),
        (s.drivesMiso csnLow = true ↔ csnLow = true ∧ s.cp.hold = .released)
          ∧ s.transactionOut free [] = []
          ∧ (first.getLsbD 7 = true →
              s.transactionOut free (first :: data) = 0 :: s.readOut (first.extractLsb' 0 7) data.length)
          ∧ (first.getLsbD 7 = false →
              s.transactionOut free (first :: data) = 0 :: (List.range data.length).map free))
    ∧ (∀ (first : Byte) (data : List Byte), first.getLsbD 7 = false →
        let a := first.extractLsb' 0 7
        (a = 0x0A#7 → transactionCommands (first :: data) = data.map .mailboxDataWrite)
          ∧ (a ≠ 0x0A#7 → data.length < 4 → transactionCommands (first :: data) = [])
          ∧ ∀ b0 b1 b2 b3 rest, data = b0 :: b1 :: b2 :: b3 :: rest →
              let v : Word := b0 ++ b1 ++ b2 ++ b3
              (a = 0x08#7 → transactionCommands (first :: data) = [.mailboxFlags v])
                ∧ (a = 0x09#7 → transactionCommands (first :: data) = [.mailboxSelect v])
                ∧ (a ≠ 0x08#7 → a ≠ 0x09#7 → a ≠ 0x0A#7 →
                    transactionCommands (first :: data) = [.itemWriteIgnored a v]))
    ∧ transactionCommands [] = []
    ∧ (∀ (first : Byte) (data : List Byte), first.getLsbD 7 = true →
        let a := first.extractLsb' 0 7
        let rows := transactionCommands (first :: data)
        (a = 0x0A#7 → rows = List.replicate data.length .mailboxDataRead)
          ∧ (a = 0x03#7 → rows = if data.length < 4 then [.eventPop .address, .eventPop .cut] else [.eventPop .whole])
          ∧ (a = 0x05#7 → rows = if data.length < 4 then [.summary .address, .summary .cut] else [.summary .whole])
          ∧ (a ≠ 0x0A#7 → a ≠ 0x03#7 → a ≠ 0x05#7 → rows = []))
    ∧ ∀ (s : State) (v : Word),
        (s.cp.hold = .released →
          exec (.mailboxFlags v) s = .next
              { s with
                cp := { s.cp with cmdFlag := s.cp.cmdFlag || v.getLsbD 0, rspFlag := s.cp.rspFlag || v.getLsbD 1 } }
            ∧ exec (.mailboxSelect v) s = .next
                { s with
                  cp := { s.cp with
                    select := if v.getLsbD 31 then .response else .command
                    offset := min 256 (v.toNat % 512) } })
          ∧ (s.cp.hold ≠ .released →
              (∀ c, ((∃ ph, c = .eventPop ph ∨ c = .summary ph) ∨ c = .mailboxFlags v ∨ c = .mailboxSelect v
                ∨ (∃ b, c = .mailboxDataWrite b) ∨ c = .mailboxDataRead) → exec c s = .next s))
          ∧ ∀ a : BitVec 7,
              (a ≠ 0x08#7 → a ≠ 0x09#7 → a ≠ 0x0A#7 → exec (.itemWriteIgnored a v) s = .next s)
                ∧ (a = 0x08#7 ∨ a = 0x09#7 ∨ a = 0x0A#7 → exec (.itemWriteIgnored a v) s = .refused .illFormed)

/-- R169, R171, R172: a data byte written to or read from the selected mailbox, byte for byte, the written extent,
and the violation where the part owns the mailbox. At offset 256 a violation is set too (log 14). miso is the model's
record of the byte driven (log 9). -/
def Obligations.MailboxBytesAreStoredAndRead : Prop :=
  ∀ (s : State) (b : Byte), s.cp.hold = .released → s.mailboxesSound →
    let at' (c : ControlPort) (m : Mailbox) (i : Nat) : Byte :=
      match m with
      | .command => c.cmdBox.read i
      | .response => c.rspBox.read i
    let owned : Bool := match s.cp.select with
      | .command => s.cp.cmdFlag
      | .response => s.cp.rspFlag
    let next := if s.cp.offset = 256 then 256 else s.cp.offset + 1
    (∃ t, exec (.mailboxDataWrite b) s = .next t
      ∧ t = { s with cp := t.cp, eu := { s.eu with accessViolation := s.eu.accessViolation || owned } }
      ∧ t.cp = { s.cp with cmdBox := t.cp.cmdBox, rspBox := t.cp.rspBox, extent := t.cp.extent, offset := next }
      ∧ (∀ m i, at' t.cp m i =
          if owned = false ∧ m = s.cp.select ∧ i = s.cp.offset ∧ s.cp.offset < 256 then b else at' s.cp m i)
      ∧ t.cp.extent =
          if owned = false ∧ s.cp.select = .command ∧ s.cp.offset < 256 then max s.cp.extent (s.cp.offset + 1)
          else s.cp.extent)
      ∧ exec .mailboxDataRead s = .next
          { s with
            cp := { s.cp with
              offset := next
              miso := [if owned ∨ s.cp.offset = 256 then 0 else at' s.cp s.cp.select s.cp.offset] }
            eu := { s.eu with accessViolation := s.eu.accessViolation || owned } }

/-- R170, R172, R173, R196: the completion of a command: the response record byte for byte with 0 in every byte
after it, both flags and the written extent cleared, RESPONSE_READY; nothing else changes. The status codes. -/
def Obligations.ResponseIsWrittenThenAnnounced : Prop :=
  ([Status.ok, .deferred, .badCommand, .badLength, .badArgument, .notOpen, .busy, .noSlot, .badProfile, .incomplete,
      .portActive, .noLens, .notFound].map Status.code
    = [0x00, 0x01, 0x10, 0x11, 0x12, 0x13, 0x14, 0x15, 0x16, 0x17, 0x18, 0x19, 0x1A]) ∧
  ∀ (s : State) (status : Status) (args : List Byte), args.length ≤ 252 →
    let record : List Byte := bytes16 (BitVec.ofNat 16 (4 + args.length)) ++ [status.code, 0] ++ args
    let t := s.respond status args
    t = { s with
        cp := { s.cp with rspBox := t.cp.rspBox, cmdFlag := false, rspFlag := false, extent := 0 }
        eu := s.posting [(.responseReady, status.code.setWidth 16)] }
      ∧ t.cp.rspBox.wf = true ∧ ∀ i, t.cp.rspBox.read i = record.getD i 0

/-! ### Mailbox commands -/

/-- R172, R174: a length out of range or beyond the written extent is BAD_LENGTH, a code that names no command
BAD_COMMAND, a wrong fixed length BAD_LENGTH. The last is answered by the command's own row (log 11). -/
def Obligations.CommandsAreCheckedBeforeExecution : Prop :=
  ∀ s : State, s.cp.cmdFlag = true → s.cp.rspFlag = true → s.cp.initBusy = false →
    let fits : Prop := 4 ≤ s.cmdLength ∧ s.cmdLength ≤ 256 ∧ s.cmdLength ≤ s.cp.extent
    (¬ fits → exec .badCommand s = .next (s.respond .badLength []))
      ∧ (fits →
          s.cmdCode ∉ [0x01, 0x02, 0x03, 0x04, 0x05, 0x06, 0x07, 0x10, 0x11, 0x12, 0x13, 0x14, 0x20, 0x21, 0x22, 0x23,
            0x24, 0x25, 0x26, 0x27] →
          exec .badCommand s = .next (s.respond .badCommand []))
      ∧ ∀ row ∈ ([(0x02, 4, .getConfig), (0x03, 4, .getStatusDetail), (0x04, 4, .resetCore), (0x05, 5, .runControl),
            (0x06, 42, .portConfig), (0x07, 5, .portReset), (0x10, 21, .postAttach), (0x11, 11, .postPosition),
            (0x12, 6, .postDetach), (0x13, 5, .setSource), (0x14, 5, .readTimeline), (0x22, 4, .profileCommit),
            (0x23, 4, .profileDiscard), (0x24, 5, .profileDelete), (0x25, 7, .profileRead), (0x26, 4, .listProfiles),
            (0x27, 5, .bindOverride)] : List (Nat × Nat × Instr)),
          fits → s.cmdCode = row.1 → s.cmdLength ≠ row.2.1 → exec row.2.2 s = .next (s.respond .badLength [])

/-- R121, R174, R175, R176, R196: SET_CONFIG: the length, then each entry in turn, then W and H against the enabled
ports; a command that passes applies every entry at one moment. `value` is the value the parameters have. -/
def Obligations.SetConfigAppliesEveryEntryOrNone : Prop :=
  ∀ s : State, (∃ length, s.handed 0x01 length) →
    let n := (s.cmdLength - 4) / 4
    let number (i : Nat) : Nat := s.arg (4 + 4 * i) 1
    let value (i : Nat) : Nat := s.arg (5 + 4 * i) 3
    let allowed (parameter v : Nat) : Prop :=
      (parameter = 1 ∧ (v = 0 ∨ 64 ≤ v ∧ v ≤ 8192)) ∨ (parameter = 2 ∧ (v = 0 ∨ 64 ≤ v ∧ v ≤ 6144))
        ∨ (parameter = 3 ∧ 2 ≤ v ∧ v ≤ 250) ∨ (parameter = 4 ∧ 10 ≤ v ∧ v ≤ 2000) ∨ (parameter = 5 ∧ v ≤ 1)
        ∨ (parameter = 6 ∧ v ≤ 1) ∨ (parameter = 7 ∧ v ≤ 65535) ∨ (parameter = 8 ∧ v ≤ 2)
        ∨ (parameter = 9 ∧ 1 ≤ v ∧ v ≤ 15) ∨ (parameter = 10 ∧ v ≤ 131071 ∧ v % 2 = 0) ∨ (parameter = 11 ∧ v ≤ 1)
    let good (i : Nat) : Prop := allowed (number i) (value i) ∧ ∀ j < i, number j ≠ number i
    let resizes : Prop := ∃ i < n,
      (number i = 1 ∧ value i ≠ s.config.width.toNat) ∨ (number i = 2 ∧ value i ≠ s.config.height.toNat)
    let enabled : Prop := ∃ p, (s.port p).config.enabled = true
    let shown (c : ConfigSet) (parameter : Nat) : Nat :=
      [0, c.width.toNat, c.height.toNat, c.linkSilence.toNat, c.postedSilence.toNat, c.autoFailover.toNat,
        c.autoReturn.toNat, c.holdLimit.toNat, c.priority.code, c.consecutiveLimit, c.mask.toNat,
        c.deferLow.toNat].getD parameter 0
    ((s.cmdLength - 4) % 4 ≠ 0 ∨ n = 0 → exec .setConfig s = .next (s.respond .badArgument [1]))
      ∧ ((s.cmdLength - 4) % 4 = 0 → ∀ i < n, ¬ good i → (∀ j < i, good j) →
          exec .setConfig s = .next (s.respond .badArgument [BitVec.ofNat 8 (i + 1)]))
      ∧ ((s.cmdLength - 4) % 4 = 0 → 1 ≤ n → (∀ i < n, good i) →
          (resizes → enabled → exec .setConfig s = .next (s.respond .portActive []))
            ∧ (¬ (resizes ∧ enabled) →
                ∃ c : ConfigSet, exec .setConfig s = .next (({ s with config := c }).respond .ok [BitVec.ofNat 8 n])
                  ∧ (∀ i < n, shown c (number i) = value i)
                  ∧ ∀ parameter, (∀ i < n, number i ≠ parameter) → shown c parameter = shown s.config parameter))

/-- R120, R121, R136, R193, R196: PORT_CONFIG: its checks in order, and the configuration it leaves. -/
def Obligations.PortConfigChecksThenConfigures : Prop :=
  ∀ (s : State), s.handed 0x06 42 →
    let template := RequestFields.ofWords ((List.range 8).map fun i => BitVec.ofNat 32 (s.arg (10 + 4 * i) 4))
    let q (p : Port) := s.port p
    let bad (n : Byte) : Prop := exec .portConfig s = .next (s.respond .badArgument [n])
    let fits : Prop := windowFits template s.config = true ∧ gridFits template.nc template.nr = true
    (2 ≤ s.arg 4 1 → bad 1)
      ∧ (s.arg 4 1 ≤ 1 → 2 ≤ s.arg 5 1 → bad 2)
      ∧ (s.arg 4 1 ≤ 1 → s.arg 5 1 ≤ 1 → 3 ≤ s.arg 6 1 → bad 3)
      ∧ (s.arg 4 1 ≤ 1 → s.arg 5 1 ≤ 1 → s.arg 6 1 ≤ 2 → 2 ≤ s.arg 7 1 → bad 4)
      ∧ (s.arg 4 1 ≤ 1 → s.arg 5 1 ≤ 1 → s.arg 6 1 ≤ 2 → s.arg 7 1 ≤ 1 → s.arg 8 1 = 0 → bad 5)
      ∧ (s.arg 4 1 ≤ 1 → s.arg 5 1 ≤ 1 → s.arg 6 1 ≤ 2 → s.arg 7 1 ≤ 1 → s.arg 8 1 ≠ 0 → s.arg 9 1 = 0 → bad 6)
      ∧ ∀ (p : Port) (enabled : Bool) (mode : TriggerMode) (policy : FullPolicy),
          s.arg 4 1 = portCode p → s.arg 5 1 = enabled.toNat → s.arg 6 1 = mode.code → s.arg 7 1 = policy.code →
          s.arg 8 1 ≠ 0 → s.arg 9 1 ≠ 0 →
          let config : PortConfig :=
            { enabled := enabled, mode := mode, template := template, policy := policy
              waitLimit := BitVec.ofNat 8 (s.arg 8 1), stallLimit := BitVec.ofNat 8 (s.arg 9 1) }
          let unset : Prop := enabled = true ∧ (s.config.width = 0 ∨ s.config.height = 0)
          let same : Prop := config = { (q p).config with template :=
            { (q p).config.template with exposure := template.exposure, lineTime := template.lineTime } }
          let active : Prop := (q p).config.enabled = true ∧ (q p).slots ≠ [] ∧ ¬ same
          let misfit : Prop := enabled = true ∧ mode ≠ .command ∧ ¬ fits
          (unset → bad 2)
            ∧ (¬ unset → active → exec .portConfig s = .next (s.respond .portActive []))
            ∧ (¬ unset → ¬ active → misfit → bad 7)
            ∧ (¬ unset → ¬ active → ¬ misfit →
                exec .portConfig s = .next
                  (({ s with ports := s.ports.set p { q p with config := config } }).respond .ok []))

/-- R24, R26, R32, R33, R34, R35, R36: PROFILE_COMMIT: its checks in order, its target, and the commit applied at
once or deferred. -/
def Obligations.ProfileCommitAppliesOrDefers : Prop :=
  ∀ s : State, s.handed 0x22 4 →
    let written (p : Staged) : Prop := ∀ c ∈ p.table, c ≠ none
    let filled (p : Staged) : Prop := ∀ c ∈ p.table, ∀ x, c = some x → x.fillSound
    let holds (p : Staged) (k : Fin 16) : Prop := s.key? k = some (p.header.lensId, p.header.converter)
    let target (p : Staged) (k : Fin 16) : Prop :=
      (holds p k ∧ ∀ j < k, ¬ holds p j)
        ∨ ((∀ j, ¬ holds p j) ∧ s.profile? k = none ∧ ∀ j < k, s.profile? j ≠ none)
    (s.store.pendingOp ≠ none → exec .profileCommit s = .next (s.respond .busy []))
      ∧ (s.store.pendingOp = none → (∀ p, s.store.staging ≠ .opened p) →
          exec .profileCommit s = .next (s.respond .notOpen []))
      ∧ ∀ p, s.store.pendingOp = none → s.store.staging = .opened p →
          (∀ i, p.table[i]? = some none → (∀ j < i, p.table[j]? ≠ some none) →
            exec .profileCommit s = .next (s.respond .incomplete [BitVec.ofNat 8 i]))
          ∧ (written p → ∀ i x, p.table[i]? = some (some x) → ¬ x.fillSound →
              (∀ j < i, ∀ y, p.table[j]? = some (some y) → y.fillSound) →
              exec .profileCommit s = .next (s.respond .badProfile [BitVec.ofNat 8 i, 8]))
          ∧ (written p → filled p → (∀ j, ¬ holds p j ∧ s.profile? j ≠ none) →
              exec .profileCommit s = .next (s.respond .noSlot []))
          ∧ (written p → filled p → ∀ k, target p k →
              let g := s.generation k + 1
              (s.store.boundSlot ≠ some k →
                exec .profileCommit s = .next
                  (({ s with
                      store := { s.store with
                        slots := s.store.slots.set k ⟨g, some ⟨p.header, p.table.map fun c => Option.getD c CoeffSet.zero⟩⟩
                        staging := .closed
                        pendingOp := none }
                      eu := s.posting [(.profileApplied, g ++ 0#4 ++ BitVec.ofNat 4 k.val)] }).respond .ok
                    [BitVec.ofNat 8 k.val, g]))
              ∧ (s.store.boundSlot = some k →
                  exec .profileCommit s = .next
                    (({ s with
                        store := { s.store with staging := .committing p, pendingOp := some (.commit k) } }).respond
                      .deferred [BitVec.ofNat 8 k.val, g])))

/-- R37, R38, R39, R44: PROFILE_DISCARD in each staging state, and PROFILE_DELETE: its checks in order, the delete
applied at once or deferred. -/
def Obligations.ProfileDiscardAndDelete : Prop :=
  ∀ s : State,
    (s.handed 0x23 4 →
      (s.store.staging = .closed → exec .profileDiscard s = .next (s.respond .ok [0]))
        ∧ (∀ p, s.store.staging = .opened p →
            exec .profileDiscard s = .next
              (({ s with store := { s.store with staging := .closed } }).respond .ok [1]))
        ∧ (∀ p k, s.store.staging = .committing p → s.store.pendingOp = some (.commit k) →
            exec .profileDiscard s = .next
              (({ s with store := { s.store with staging := .closed, pendingOp := none } }).respond .ok [2])))
      ∧ (s.handed 0x24 5 →
          (16 ≤ s.arg 4 1 → exec .profileDelete s = .next (s.respond .badArgument [1]))
            ∧ ∀ k : Fin 16, s.arg 4 1 = k.val →
                (s.store.pendingOp ≠ none → exec .profileDelete s = .next (s.respond .busy []))
                  ∧ (s.store.pendingOp = none → s.profile? k = none →
                      exec .profileDelete s = .next (s.respond .notFound []))
                  ∧ (s.store.pendingOp = none → s.profile? k ≠ none → s.store.boundSlot ≠ some k →
                      exec .profileDelete s = .next
                        (({ s with
                            store := { s.store with slots := s.store.slots.set k ⟨s.generation k, none⟩ }
                            lst := { s.lst with override := if s.lst.override = some k then none else s.lst.override }
                            eu := s.posting [(.profileApplied, s.generation k ++ 0x1#4 ++ BitVec.ofNat 4 k.val)] }).respond
                          .ok [BitVec.ofNat 8 k.val, s.generation k]))
                  ∧ (s.store.pendingOp = none → s.profile? k ≠ none → s.store.boundSlot = some k →
                      exec .profileDelete s = .next
                        (({ s with store := { s.store with pendingOp := some (.delete k) } }).respond .deferred
                          [BitVec.ofNat 8 k.val, s.generation k])))

/-- R43, R44, R81, R84, R142, R143: SET_SOURCE, RUN_CONTROL and BIND_OVERRIDE: the checks of each in order, and the value
it sets. -/
def Obligations.OneValueCommandsSetTheirValue : Prop :=
  (∀ s : State, s.handed 0x13 5 →
      (2 ≤ s.arg 4 1 → exec .setSource s = .next (s.respond .badArgument [1]))
        ∧ ∀ f : Feed, s.arg 4 1 = f.code →
            let changed : State := ({ s with
              lst := { s.lst with source := f }
              eu := s.posting [(.sourceChanged, BitVec.ofNat 16 f.code)] }).testCover
            exec .setSource s = .next
              ((if s.lst.source = f then s else changed).respond .ok
                [BitVec.ofNat 8 s.lst.source.code, BitVec.ofNat 8 f.code, if s.freshOf f then 1 else 0]))
    ∧ (∀ s : State, s.handed 0x05 5 →
          (∀ r : RunState, s.arg 4 1 = r.code →
            exec .runControl s = .next
              (({ s with me := { s.me with runState := r } }).respond .ok
                [BitVec.ofNat 8 s.me.runState.code, BitVec.ofNat 8 r.code, if s.me.mesh.isSome then 1 else 0]))
            ∧ (3 ≤ s.arg 4 1 → exec .runControl s = .next (s.respond .badArgument [1])))
    ∧ (∀ s : State, s.handed 0x27 5 →
          let before : Byte := match s.lst.override with
            | some k => BitVec.ofNat 8 k.val
            | none => 0xFF
          let sets (o : Option (Fin 16)) : Prop :=
            exec .bindOverride s = .next (({ s with lst := { s.lst with override := o } }).respond .ok [before])
          (s.arg 4 1 = 0xFF → sets none)
            ∧ (16 ≤ s.arg 4 1 → s.arg 4 1 ≠ 0xFF → exec .bindOverride s = .next (s.respond .badArgument [1]))
            ∧ ∀ k : Fin 16, s.arg 4 1 = k.val →
                (s.lst.record = none → exec .bindOverride s = .next (s.respond .noLens []))
                  ∧ (s.lst.record ≠ none → s.profile? k = none → exec .bindOverride s = .next (s.respond .notFound []))
                  ∧ (s.lst.record ≠ none → s.profile? k ≠ none → sets (some k)))

/-- R40, R41, R42, R65, R90, R105, R161, R177, R178, R193, R197: the commands that read: each answers OK with the
arguments written out here byte by byte, and changes nothing else; PROFILE_READ returns 0xFFFFFF for every
coefficient of a protected slot. DEDUCED are a template re-encoded (log 17), the order of the codes (log 18), the
widths (log 19, log 35), and the five bytes 0 after the 0xFF of an unused slot entry (log 20). `num k n` is n in k
bytes, most significant first. -/
def Obligations.ReadingCommandsChangeNothingElse : Prop :=
  let num (k n : Nat) : List Byte := (List.range k).map fun i => BitVec.ofNat 8 (n / 256 ^ (k - 1 - i))
  let flag (b : Bool) : List Byte := [if b then 1 else 0]
  let slot (k : Option (Fin 16)) : List Byte := match k with
    | none => [0xFF]
    | some k => num 1 k.val
  let port (p : Port) : Nat := match p with
    | .mp0 => 0
    | .mp1 => 1
  let feed (x : Feed) : Nat := match x with
    | .link => 0
    | .posted => 1
  let run (r : RunState) : Nat := match r with
    | .run => 0
    | .hold => 1
    | .step => 2
  let tracker (t : TrackerState) : Nat := match t with
    | .absent => 0
    | .live => 1
    | .silent => 2
  let staging (x : Staging) : Nat := match x with
    | .closed => 0
    | .opened _ => 1
    | .committing _ => 2
  let op (o : Option StoreOp) : List Byte := match o with
    | none => [0, 0xFF]
    | some (.commit k) => [1] ++ num 1 k.val
    | some (.delete k) => [2] ++ num 1 k.val
  let template (f : RequestFields) : List Byte :=
    let fill : Nat := match f.fillMode with
      | .profile => 0
      | .unity => 1
      | .fixed => 2
    num 2 f.tag.toNat ++ num 2 f.frame.toNat ++ num 1 f.expectedGen.toNat
      ++ num 1 (64 * f.stepCode.toNat + 16 * fill) ++ [0]
      ++ num 1 (16 * f.latest.toNat + 8 * f.requireProfile.toNat + 4 * f.strictGen.toNat + 2 * f.waitCover.toNat
          + f.rgb.toNat)
      ++ num 2 f.x0.toNat ++ num 2 f.y0.toNat ++ num 2 f.width.toNat ++ num 2 f.height.toNat
      ++ [0, 0] ++ num 2 f.lineTime.toNat ++ num 4 f.exposure.toNat ++ num 4 f.fixedFill.toNat ++ [0, 0, 0, 0]
  let portConfig (c : PortConfig) : List Byte :=
    let mode : Nat := match c.mode with
      | .command => 0
      | .strobe => 1
      | .strobeOnce => 2
    let policy : Nat := match c.policy with
      | .dropNew => 0
      | .replaceOldest => 1
    flag c.enabled ++ num 1 mode ++ num 1 policy ++ num 1 c.waitLimit.toNat ++ num 1 c.stallLimit.toNat
      ++ template c.template
  let strobes (u : StrobeUnit) : List Byte :=
    num 2 u.counter.toNat
      ++ (match u.lock with
          | .unlocked r => [0] ++ num 4 r.count
          | .locked period _ => [1] ++ num 4 period)
      ++ num 1 u.table.length
      ++ ((u.table.flatMap fun (r : StrobeRecord) => num 2 r.frame.toNat ++ num 4 r.time.toNat ++ flag r.offPeriod)
          ++ List.replicate 56 0).take 56
  let request (r : Request) : List Byte :=
    let state : Nat := match r.state with
      | .pendingFrame => 0
      | .pendingCover => 1
      | .ready => 2
      | .inEngine => 3
    num 1 r.slot.val ++ num 1 state ++ num 2 r.fields.tag.toNat
      ++ (match r.strobe with
          | none => [0, 0]
          | some c => num 2 c.frame.toNat)
  let meshPort (q : MeshPort) : List Byte :=
    num 1 q.slots.length
      ++ ((q.slots.map request ++ List.replicate 4 [0xFF, 0, 0, 0, 0, 0]).take 4).flatten
      ++ num 1 q.replies.length ++ num 1 (q.slots.length + (if q.gathered = [] then 0 else 1))
      ++ num 2 q.fifo.length ++ num 2 q.dropped.toNat
  let mesh (now : Word) (x : Option Mesh) : List Byte := match x with
    | none => [0, 0, 0, 0, 0, 0, 0xFF, 0, 0, 0, 0, 0, 0, 0, 0, 0, 0, 0, 0, 0, 0]
    | some m =>
      [1] ++ num 1 (port m.port) ++ num 2 m.request.fields.tag.toNat
        ++ (match m.request.strobe with
            | none => [0, 0]
            | some c => num 2 c.frame.toNat)
        ++ slot m.binding.slot ++ num 2 m.epoch.toNat ++ num 1 m.cursor ++ num 2 m.nodes ++ num 2 m.saturated
        ++ num 1 m.flagged ++ flag m.epochChanged
        ++ (match m.stallTimer with
            | none => [0, 0, 0, 0, 0]
            | some x => [1] ++ num 4 (x - now).toNat)
  let set (c : CoeffSet) : List Byte :=
    [c.k1, c.k2, c.k3, c.aR0, c.aR1, c.aB0, c.aB1, c.fill].flatMap fun x => num 3 x.toNat
  (∀ s : State,
      (s.handed 0x02 4 → ∃ args : List Byte, args.length = 107
          ∧ args = ([ s.config.width.toNat, s.config.height.toNat, s.config.linkSilence.toNat,
                s.config.postedSilence.toNat, s.config.autoFailover.toNat, s.config.autoReturn.toNat,
                s.config.holdLimit.toNat,
                (match s.config.priority with
                  | .none => 0
                  | .mp0 => 1
                  | .mp1 => 2),
                s.config.consecutiveLimit, s.config.mask.toNat, s.config.deferLow.toNat ].flatMap (num 3))
              ++ portConfig (s.port .mp0).config ++ portConfig (s.port .mp1).config
          ∧ exec .getConfig s = .next (s.respond .ok args))
        ∧ (s.handed 0x03 4 → ∃ args : List Byte, args.length = 241
            ∧ args =
              (match s.cp.resetCause with
                | .powerOn => [0]
                | .pin => [1]
                | .core => [2])
              ++ num 2 s.llr.checkErrors.toNat ++ num 2 s.llr.gaps.toNat ++ num 2 s.llr.malformed.toNat
              ++ num 1 s.llr.good
              ++ num 1 (tracker s.trackerState) ++ num 1 (feed s.lst.source)
              ++ num 1 (s.llr.fresh.toNat + 2 * s.lst.postedFresh.toNat) ++ num 2 s.lst.epoch.toNat
              ++ num 1 s.lst.timeline.length ++ num 2 s.lst.late.toNat ++ num 2 s.lst.clamps.toNat
              ++ num 2 s.lst.ignored.toNat
              ++ strobes (s.tsu.get .mp0) ++ strobes (s.tsu.get .mp1)
              ++ meshPort (s.port .mp0) ++ meshPort (s.port .mp1)
              ++ num 1 (staging s.store.staging) ++ op s.store.pendingOp ++ slot s.store.boundSlot
              ++ slot s.lst.override
              ++ num 1 (run s.me.runState) ++ num 1 (port s.me.lastGranted) ++ num 1 s.me.consecutive
              ++ mesh s.time s.me.mesh
              ++ num 1 s.eu.queue.length ++ flag s.eu.overflow
            ∧ exec .getStatusDetail s = .next (s.respond .ok args))
        ∧ (s.handed 0x26 4 → ∃ args : List Byte, args.length = 115
            ∧ args = num 1 (staging s.store.staging) ++ slot s.lst.override ++ slot s.store.boundSlot
                ++ (List.finRange 16).flatMap (fun k =>
                  let pending : Nat :=
                    if s.store.pendingOp = some (.commit k) ∨ s.store.pendingOp = some (.delete k) then 4 else 0
                  match s.profile? k with
                  | none => num 1 pending ++ [0, 0, 0, 0, 0] ++ num 1 (s.generation k).toNat
                  | some p =>
                    num 1 (1 + 2 * p.header.isProtected.toNat + pending) ++ num 4 p.header.lensId.toNat
                      ++ num 1 p.header.converter.toNat ++ num 1 (s.generation k).toNat)
            ∧ exec .listProfiles s = .next (s.respond .ok args))
        ∧ (s.handed 0x14 5 →
            (128 ≤ s.arg 4 1 → exec .readTimeline s = .next (s.respond .badArgument [1]))
              ∧ (s.arg 4 1 ≤ 127 →
                  let entries := (s.lst.timeline.drop (s.arg 4 1)).take 16
                  ∃ args : List Byte, args.length = 21 + 14 * entries.length
                    ∧ args = num 1 (tracker s.trackerState) ++ num 1 (feed s.lst.source) ++ num 2 s.lst.epoch.toNat
                        ++ (match s.lst.record with
                            | none => List.replicate 15 0
                            | some r =>
                              [1] ++ num 4 r.lensId.toNat ++ num 2 r.firmware.toNat ++ num 2 r.focalMin.toNat
                                ++ num 2 r.focalMax.toNat ++ num 1 r.converter.toNat
                                ++ (match r.presence with
                                    | .attached => [0]
                                    | .detached => [1])
                                ++ num 2 r.epoch.toNat)
                        ++ num 1 s.lst.timeline.length ++ num 1 entries.length
                        ++ entries.flatMap (fun e =>
                          num 4 e.tFirst.toNat ++ num 4 e.tLast.toNat ++ num 2 e.focal.toNat ++ num 2 e.focus.toNat
                            ++ num 1 e.converter.toNat ++ num 1 (feed e.source))
                    ∧ exec .readTimeline s = .next (s.respond .ok args))))
    ∧ (∀ s : State, s.handed 0x25 7 → 16 ≤ s.arg 4 1 → exec .profileRead s = .next (s.respond .badArgument [1]))
    ∧ (∀ (s : State) (k : Fin 16), s.handed 0x25 7 → s.arg 4 1 = k.val →
          (s.profile? k = none → exec .profileRead s = .next (s.respond .notFound []))
            ∧ ∀ p, s.profile? k = some p → p.table.length = p.header.focals.length * p.header.focuses.length →
                let first := s.arg 5 1
                let count := s.arg 6 1
                let h := p.header
                let lists := h.focals.length + h.focuses.length
                (9 ≤ count → exec .profileRead s = .next (s.respond .badArgument [3]))
                  ∧ (count ≤ 8 → p.table.length < first + count → exec .profileRead s = .next (s.respond .badArgument [2]))
                  ∧ (count ≤ 8 → first + count ≤ p.table.length →
                      ∃ args : List Byte, exec .profileRead s = .next (s.respond .ok args)
                        ∧ args.length = 17 + 2 * lists + 24 * count
                        ∧ args = num 4 h.lensId.toNat ++ num 1 h.converter.toNat ++ flag h.isProtected
                            ++ num 1 (s.generation k).toNat ++ num 4 h.rn16.toNat ++ num 2 h.ox.toNat
                            ++ num 2 h.oy.toNat ++ num 1 h.focals.length ++ num 1 h.focuses.length
                            ++ (h.focals.flatMap fun x => num 2 x.toNat) ++ (h.focuses.flatMap fun x => num 2 x.toNat)
                            ++ if h.isProtected then List.replicate (24 * count) 0xFF#8
                              else ((p.table.drop first).take count).flatMap set))

/-- R29, R30, R31, R172, R196: PROFILE_OPEN and PROFILE_NODES of commands that carry their counts: the checks in order, and
what the staging slot then holds. -/
def Obligations.StagingSlotIsOpenedAndWritten : Prop :=
  (∀ (s : State) (length : Nat), s.handed 0x20 length → 6 ≤ length →
      let a := s.arg 4 1
      let b := s.arg 5 1
      let focal (i : Nat) : Nat := s.arg (20 + 2 * i) 2
      let focus (i : Nat) : Nat := s.arg (20 + 2 * a + 2 * i) 2
      let ox : Half := BitVec.ofNat 16 (s.arg 16 2)
      let oy : Half := BitVec.ofNat 16 (s.arg 18 2)
      let checks : List Prop :=
        [ 1 ≤ a ∧ a ≤ 12, 1 ≤ b ∧ b ≤ 8, length = 20 + 2 * (a + b), True, s.arg 10 1 ≤ 3, s.arg 11 1 ≤ 1,
          256 ≤ s.arg 12 4 ∧ s.arg 12 4 ≤ 131071, -2047 ≤ ox.toInt ∧ ox.toInt ≤ 2047,
          -2047 ≤ oy.toInt ∧ oy.toInt ≤ 2047,
          (∀ i < a, 1 ≤ focal i) ∧ ∀ i, i + 1 < a → focal i < focal (i + 1),
          (∀ i < b, focus i ≤ 4095) ∧ ∀ i, i + 1 < b → focus i < focus (i + 1) ]
      (s.store.staging ≠ .closed → exec .profileOpen s = .next (s.respond .busy []))
        ∧ (s.store.staging = .closed →
            (∀ n, n < 11 → ¬ checks.getD n True → (∀ j < n, checks.getD j True) →
              exec .profileOpen s = .next (s.respond .badArgument [BitVec.ofNat 8 (n + 1)]))
            ∧ ((∀ j < 11, checks.getD j True) →
                let header : ProfileHeader :=
                  { lensId := BitVec.ofNat 32 (s.arg 6 4), converter := BitVec.ofNat 2 (s.arg 10 1)
                    isProtected := decide (s.arg 11 1 = 1), rn16 := BitVec.ofNat 17 (s.arg 12 4), ox := ox, oy := oy
                    focals := (List.range a).map fun i => BitVec.ofNat 16 (focal i)
                    focuses := (List.range b).map fun i => BitVec.ofNat 12 (focus i) }
                exec .profileOpen s = .next
                  (({ s with
                      store := { s.store with staging := .opened ⟨header, List.replicate (a * b) none⟩ } }).respond .ok
                    [BitVec.ofNat 8 (a * b)]))))
    ∧ (∀ (s : State) (length : Nat), s.handed 0x21 length → 6 ≤ length →
          let first := s.arg 4 1
          let count := s.arg 5 1
          let coefficient (i j : Nat) : BitVec 24 := BitVec.ofNat 24 (s.arg (6 + 24 * i + 3 * j) 3)
          let given (i : Nat) : CoeffSet :=
            ⟨coefficient i 0, coefficient i 1, coefficient i 2, coefficient i 3, coefficient i 4, coefficient i 5,
              coefficient i 6, coefficient i 7⟩
          ((∀ p, s.store.staging ≠ .opened p) → exec .profileNodes s = .next (s.respond .notOpen []))
            ∧ ∀ p, s.store.staging = .opened p → p.table.length = p.header.focals.length * p.header.focuses.length →
                (count = 0 ∨ 9 ≤ count → exec .profileNodes s = .next (s.respond .badArgument [2]))
                  ∧ (1 ≤ count → count ≤ 8 → p.table.length < first + count →
                      exec .profileNodes s = .next (s.respond .badArgument [1]))
                  ∧ (1 ≤ count → count ≤ 8 → first + count ≤ p.table.length → length ≠ 6 + 24 * count →
                      exec .profileNodes s = .next (s.respond .badArgument [3]))
                  ∧ (1 ≤ count → count ≤ 8 → first + count ≤ p.table.length → length = 6 + 24 * count →
                      ∃ table : List (Option CoeffSet), table.length = p.table.length
                        ∧ (∀ i < table.length, table.getD i none =
                            if first ≤ i ∧ i < first + count then some (given (i - first)) else p.table.getD i none)
                        ∧ exec .profileNodes s = .next
                            (({ s with store := { s.store with staging := .opened ⟨p.header, table⟩ } }).respond .ok
                              [BitVec.ofNat 8 (table.countP Option.isSome), BitVec.ofNat 8 table.length])))

/-! ### The whole part -/

/-- R93, R95, R139, R145, R152, R157, R167, R168, R172, R180 of the model's queue: a command leaves the waiting commands
alone and takes no time (log 4): only a POWER_ON and a PIN reset set the timebase, to 0. On an empty queue the part's
own first due event happens, or else the timebase advances by 1 µs, or stands while the part is held in a reset
(log 1). Which events are due: INIT_BUSY's clearing by the timebase value 250 at the latest, a command handed over,
each timer reached (up to 2^31 − 1 µs late, log 29), a unit with room, a refuse record with room, a grant point. That
INIT_BUSY's clearing is the first of those due together is the model's order (log 2). -/
def Obligations.TimePassesOnlyOnAnEmptyQueue : Prop :=
  (∀ (c : Instr) (s t : State), exec c s = .next t →
    t.pending = s.pending ∧ (t.time = s.time ∨ ((c = .powerOn ∨ c = .pinReset) ∧ t.time = 0)))
    ∧ (∀ s : State, s.pending = [] →
        (s.dueEvents = [] → s.cp.hold = .released → step s = .next { s with time := s.time + 1 })
          ∧ (s.dueEvents = [] → s.cp.hold ≠ .released → step s = .next s)
          ∧ (∀ c rest, s.dueEvents = c :: rest → step s = exec c s)
          ∧ (s.cp.initBusy = true → s.cp.hold = .released → 250 ≤ s.time.toNat → step s = exec .initBusyClear s))
    ∧ ∀ s : State,
        let due (c : Instr) : Prop := c ∈ s.dueEvents
        let past (x : Option Word) : Prop := ∃ t, x = some t ∧ (s.time - t).toNat < 2 ^ 31
        let room (m : Mesh) : Prop := (s.port m.port).fifo.length + m.unit.words.length ≤ 1021
        let ready : Prop := s.cp.cmdFlag = true ∧ s.cp.rspFlag = true ∧ s.cp.initBusy = false
        let fits : Prop := 4 ≤ s.cmdLength ∧ s.cmdLength ≤ 256 ∧ s.cmdLength ≤ s.cp.extent
        let table : List (Nat × Instr) :=
          [ (0x01, .setConfig), (0x02, .getConfig), (0x03, .getStatusDetail), (0x04, .resetCore), (0x05, .runControl),
            (0x06, .portConfig), (0x07, .portReset), (0x10, .postAttach), (0x11, .postPosition), (0x12, .postDetach),
            (0x13, .setSource), (0x14, .readTimeline), (0x20, .profileOpen), (0x21, .profileNodes),
            (0x22, .profileCommit), (0x23, .profileDiscard), (0x24, .profileDelete), (0x25, .profileRead),
            (0x26, .listProfiles), (0x27, .bindOverride) ]
        (due .initBusyClear → s.cp.initBusy = true ∧ s.cp.hold = .released)
          ∧ (∀ row ∈ table, due row.2 ↔ ready ∧ fits ∧ s.cmdCode = row.1)
          ∧ (due .badCommand ↔ ready ∧ (fits → ∀ row ∈ table, s.cmdCode ≠ row.1))
          ∧ (due .interByteTimeout ↔ s.llr.rx = .inFrame ∧ past s.llr.byteTimer)
          ∧ (due .linkFreshnessExpiry ↔ past s.llr.freshTimer)
          ∧ (due .postedFreshnessExpiry ↔ past s.lst.postedTimer)
          ∧ (∀ p, due (.lossTimerExpiry p) ↔ ∃ period t, (s.tsu.get p).lock = .locked period t ∧ past (some t))
          ∧ (∀ p k, due (.waitTimerExpiry p k) ↔
              ∃ r ∈ (s.port p).slots, r.slot = k ∧ (r.state = .pendingFrame ∨ r.state = .pendingCover) ∧ past r.waitTimer)
          ∧ (due .unitPlace ↔ ∃ m, s.me.mesh = some m ∧ room m)
          ∧ (due .stallExpiry ↔ ∃ m, s.me.mesh = some m ∧ ¬ room m ∧ past m.stallTimer)
          ∧ (∀ p, due (.refuseRecordMove p) ↔
              s.inProgress p = false ∧ (s.port p).replies ≠ [] ∧ (s.port p).fifo.length + 2 ≤ 1021)
          ∧ (due .grant ↔ s.grantPort ≠ none)
          ∧ ∀ c, due c → c ∈ [.initBusyClear, .badCommand, .interByteTimeout, .linkFreshnessExpiry,
              .postedFreshnessExpiry, .unitPlace, .stallExpiry, .grant] ∨ c ∈ table.map (·.2)
              ∨ ∃ p, c = .lossTimerExpiry p ∨ c = .refuseRecordMove p ∨ ∃ k, c = .waitTimerExpiry p k

/-- R67, R73: the epoch changes at an attach, by one, and at a reset of the whole part, to 0; nowhere else. Where it
goes up, the record is ATTACHED with the new epoch, over a timeline of one entry. -/
def Obligations.EpochChangesOnlyAtAttachOrReset : Prop :=
  ∀ (c : Instr) (s t : State), exec c s = .next t →
    t.lst.epoch = s.lst.epoch
      ∨ (t.lst.epoch = s.lst.epoch + 1 ∧ (c = .postAttach ∨ ∃ b, c = .linkByte b)
          ∧ ∃ r e, t.lst.record = some r ∧ r.presence = .attached ∧ r.epoch = t.lst.epoch ∧ t.lst.timeline = [e])
      ∨ (t.lst.epoch = 0 ∧ (c = .powerOn ∨ c = .pinReset ∨ c = .resetCore))

/-- R24, R25: a slot that stays bound keeps its content and generation; a generation changes by one, at a commit
that leaves the slot occupied, or becomes 0 with the store's clearing; a slot's content changes only through
PROFILE_COMMIT, PROFILE_DELETE, the release of a mesh, or that clearing. -/
def Obligations.BoundSlotsAndGenerationsAreKept : Prop :=
  ∀ (c : Instr) (s t : State) (k : Fin 16), exec c s = .next t →
    (s.store.boundSlot = some k → t.store.boundSlot = some k → t.store.slots.get k = s.store.slots.get k)
      ∧ (t.generation k = s.generation k ∨ (t.generation k = s.generation k + 1 ∧ t.profile? k ≠ none)
          ∨ (t.generation k = 0 ∧ (c = .powerOn ∨ c = .pinReset ∨ c = .initBusyClear)))
      ∧ (t.store.slots.get k ≠ s.store.slots.get k →
          c ∈ [.powerOn, .pinReset, .initBusyClear, .profileCommit, .profileDelete, .grant, .unitPlace, .stallExpiry,
            .portReset])

/-- R98, R100, R121, R137: a command of one port leaves the other port and its strobe unit as they were. -/
def Obligations.APortLeavesTheOtherAlone : Prop :=
  ∀ (c : Instr) (p : Port) (s t : State),
    (c = .strobe p ∨ c = .lossTimerExpiry p ∨ (∃ w, c = .requestWordTaken p w) ∨ (∃ w, c = .requestRecord p w)
      ∨ (∃ k, c = .waitTimerExpiry p k) ∨ c = .wordTaken p ∨ c = .refuseRecordMove p
      ∨ (c = .portReset ∧ s.arg 4 1 = portCode p)) →
    exec c s = .next t →
      t.port (portOther p) = s.port (portOther p) ∧ t.tsu.get (portOther p) = s.tsu.get (portOther p)
        ∧ t.llr = s.llr ∧ t.config = s.config

/-- R138, R182, R184, R189: but for the resets, WORD_TAKEN and EVENT_POP, no command removes or reorders what waits in
an output FIFO or in the event queue: what stood there stands there still, in front of what is added. A posting of a
masked kind sets its summary bit, an unmasked one is appended to fewer than 32 events, else lost with the overflow flag
set; `posting` is postings one after the other. NOTIFYn by the classes of the events queued. -/
def Obligations.QueuesGrowOnlyAtTheirEnds : Prop :=
  (∀ (c : Instr) (s t : State), exec c s = .next t → c ≠ .powerOn → c ≠ .pinReset → c ≠ .resetCore →
      (c ≠ .portReset → (∀ p, c ≠ .wordTaken p) → ∀ p, (s.port p).fifo <+: (t.port p).fifo)
        ∧ ((∀ ph, c ≠ .eventPop ph) → s.eu.queue <+: t.eu.queue))
    ∧ (∀ (s : State) (kind : EventKind) (param : Half) (es : List (EventKind × Half)),
        let t := s.post kind param
        let masked := s.config.mask.getLsbD kind.code = true
        t = { s with eu := t.eu }
          ∧ (masked → t.eu = { s.eu with summary := t.eu.summary }
              ∧ ∀ n < 17, t.eu.summary.getLsbD n = (s.eu.summary.getLsbD n || n == kind.code))
          ∧ (¬ masked → s.eu.queue.length < 32 →
              t.eu = { s.eu with queue := s.eu.queue ++ [{ kind := kind, param := param, time := s.time }] })
          ∧ (¬ masked → 32 ≤ s.eu.queue.length → t.eu = { s.eu with overflow := true })
          ∧ s.posting [] = s.eu
          ∧ s.posting (es ++ [(kind, param)]) = (({ s with eu := s.posting es }).post kind param).eu)
    ∧ ∀ s : State, s.notifyAsserted = true ↔
        s.cp.initBusy = false ∧ ∃ e ∈ s.eu.queue, s.config.deferLow = false
          ∨ e.kind ∈ [.resetDone, .lensAttached, .lensDetached, .converterChanged, .noProfile, .linkSilent,
              .sourceChanged, .strobeLost, .meshAbandoned, .responseReady]

/-- R173, R174: a mailbox command not handed over has no effect; executed, it ends in one response; with a refusal
status it changes no other state. (The counter of free values drawn is the model's own, log 12.) -/
def Obligations.RefusedCommandsChangeNothingElse : Prop :=
  ∀ (c : Instr) (s t : State),
    c ∈ [.setConfig, .getConfig, .getStatusDetail, .resetCore, .runControl, .portConfig, .portReset, .postAttach,
      .postPosition, .postDetach, .setSource, .readTimeline, .profileOpen, .profileNodes, .profileCommit,
      .profileDiscard, .profileDelete, .profileRead, .listProfiles, .bindOverride, .badCommand] →
    exec c s = .next t →
      (s.cp.cmdFlag = false ∨ s.cp.rspFlag = false ∨ s.cp.initBusy = true → t = s)
        ∧ (t = s ∨ ∃ (u : State) (status : Status) (args : List Byte), t = u.respond status args
            ∧ (status ≠ .ok → status ≠ .deferred → ∃ n, u = { s with freeIndex := n }))


/-! ### Invariants -/

/-- The state after reset meets every invariant below. -/
def Obligations.ResetStateIsSound : Prop :=
  let s := State.reset
  s.mailboxesSound ∧ s.config.inRange ∧ s.eu.queue.length ≤ 32 ∧ s.me.sound ∧ s.llr.sound ∧ s.tsu.mp0.sound
    ∧ s.tsu.mp1.sound ∧ s.lst.sound ∧ s.store.profilesSound ∧ s.storeSound ∧ s.quietInit
    ∧ ∀ p, s.portSound p ∧ s.fifoSound p ∧ s.portConfigured p

/-- R66, R67, R69, R70: the timeline and the lens record. -/
def Obligations.TimelineStaysInOrder : Prop :=
  ∀ s t : State, step s = .next t → s.lst.sound → t.lst.sound

/-- R120, R121, R124, R136, R176: what an ENABLED and a DISABLED port may hold. -/
def Obligations.PortsStayConfiguredForTheirRequests : Prop :=
  ∀ s t : State, step s = .next t → s.portConfigured .mp0 → s.portConfigured .mp1 →
    t.portConfigured .mp0 ∧ t.portConfigured .mp1

/-- R6, R7, R22, R29, R31, R32: every profile held is well formed, and what is staged can be committed, in a store
that keeps the law of `StoreStaysSound`. -/
def Obligations.ProfilesStayWellFormed : Prop :=
  ∀ s t : State, step s = .next t → s.storeSound → s.store.profilesSound → t.store.profilesSound

/-- R23, R25, R27, R28, R35, R39, R43, R44, R48, R63, R104, R122, R160, R167, R190: while INIT_BUSY is set every block stands
as the reset left it, the store already cleared (the model's reading of R48, log 25), and while the part is held in a
reset INIT_BUSY stands set (log 6) with the streams empty, the timebase at 0 and no read under way (log 40); the keys, the
bound slot, the override and the pending operation keep their law. -/
def Obligations.StoreStaysSound : Prop :=
  (∀ s t : State, step s = .next t → s.quietInit → t.quietInit)
    ∧ (∀ s t : State, step s = .next t → s.quietInit → s.storeSound → t.storeSound)

/-- R51, R53, R55, R62, R98, R99, R101, R102, R147, R169, R172, R175, R184: the control port, the configuration set, the event
queue, the arbiter, the lens link receiver and each port's strobe unit, an empty run's first period being 0, the model's
choice (log 39). -/
def Obligations.ControlLinkAndStrobeStateStaysSound : Prop :=
  (∀ s t : State, step s = .next t →
      (s.mailboxesSound → t.mailboxesSound) ∧ (s.config.inRange → t.config.inRange)
        ∧ (s.eu.queue.length ≤ 32 → t.eu.queue.length ≤ 32) ∧ (s.me.sound → t.me.sound))
    ∧ (∀ s t : State, step s = .next t →
          (s.llr.sound → t.llr.sound) ∧ ∀ p, (s.tsu.get p).sound → (t.tsu.get p).sound)

/-- R122, R125, R127, R128, R131, R133, R138, R152: the slots and the reply queue of each port, with the engine's request;
a FIFO never holds more than its 1024 words, and keeps three free for the trailer during a mesh. -/
def Obligations.PortsStaySound : Prop :=
  (∀ s t : State, step s = .next t → s.portSound .mp0 → s.portSound .mp1 → t.portSound .mp0 ∧ t.portSound .mp1)
    ∧ (∀ s t : State, step s = .next t → s.fifoSound .mp0 → s.fifoSound .mp1 → t.fifoSound .mp0 ∧ t.fifoSound .mp1)
end

