-- ==== Sys2Proof/Laws/State.lean ====
section
/-! SUPPORT. The frame of every named update of State: one lemma for each field the update leaves as it was. -/

namespace Sys2Proof.Machine

/-! `setPort` -/

@[simp] theorem State.setPort_time (s : State) (p : Port) (x : MeshPort) : (s.setPort p x).time = s.time := rfl
@[simp] theorem State.setPort_cp (s : State) (p : Port) (x : MeshPort) : (s.setPort p x).cp = s.cp := rfl
@[simp] theorem State.setPort_config (s : State) (p : Port) (x : MeshPort) : (s.setPort p x).config = s.config := rfl
@[simp] theorem State.setPort_eu (s : State) (p : Port) (x : MeshPort) : (s.setPort p x).eu = s.eu := rfl
@[simp] theorem State.setPort_llr (s : State) (p : Port) (x : MeshPort) : (s.setPort p x).llr = s.llr := rfl
@[simp] theorem State.setPort_lst (s : State) (p : Port) (x : MeshPort) : (s.setPort p x).lst = s.lst := rfl
@[simp] theorem State.setPort_tsu (s : State) (p : Port) (x : MeshPort) : (s.setPort p x).tsu = s.tsu := rfl
@[simp] theorem State.setPort_store (s : State) (p : Port) (x : MeshPort) : (s.setPort p x).store = s.store := rfl
@[simp] theorem State.setPort_me (s : State) (p : Port) (x : MeshPort) : (s.setPort p x).me = s.me := rfl
@[simp] theorem State.setPort_freeIndex (s : State) (p : Port) (x : MeshPort) : (s.setPort p x).freeIndex = s.freeIndex := rfl
@[simp] theorem State.setPort_resetPhases (s : State) (p : Port) (x : MeshPort) : (s.setPort p x).resetPhases = s.resetPhases := rfl
@[simp] theorem State.setPort_pending (s : State) (p : Port) (x : MeshPort) : (s.setPort p x).pending = s.pending := rfl

/-! `post` -/

@[simp] theorem State.post_time (s : State) (k : EventKind) (v : Half) : (s.post k v).time = s.time := rfl
@[simp] theorem State.post_cp (s : State) (k : EventKind) (v : Half) : (s.post k v).cp = s.cp := rfl
@[simp] theorem State.post_config (s : State) (k : EventKind) (v : Half) : (s.post k v).config = s.config := rfl
@[simp] theorem State.post_llr (s : State) (k : EventKind) (v : Half) : (s.post k v).llr = s.llr := rfl
@[simp] theorem State.post_lst (s : State) (k : EventKind) (v : Half) : (s.post k v).lst = s.lst := rfl
@[simp] theorem State.post_tsu (s : State) (k : EventKind) (v : Half) : (s.post k v).tsu = s.tsu := rfl
@[simp] theorem State.post_ports (s : State) (k : EventKind) (v : Half) : (s.post k v).ports = s.ports := rfl
@[simp] theorem State.post_store (s : State) (k : EventKind) (v : Half) : (s.post k v).store = s.store := rfl
@[simp] theorem State.post_me (s : State) (k : EventKind) (v : Half) : (s.post k v).me = s.me := rfl
@[simp] theorem State.post_freeIndex (s : State) (k : EventKind) (v : Half) : (s.post k v).freeIndex = s.freeIndex := rfl
@[simp] theorem State.post_resetPhases (s : State) (k : EventKind) (v : Half) : (s.post k v).resetPhases = s.resetPhases := rfl
@[simp] theorem State.post_pending (s : State) (k : EventKind) (v : Half) : (s.post k v).pending = s.pending := rfl

/-! `setSlot` -/

@[simp] theorem State.setSlot_time (s : State) (k : Fin 16) (x : Slot) : (s.setSlot k x).time = s.time := rfl
@[simp] theorem State.setSlot_cp (s : State) (k : Fin 16) (x : Slot) : (s.setSlot k x).cp = s.cp := rfl
@[simp] theorem State.setSlot_config (s : State) (k : Fin 16) (x : Slot) : (s.setSlot k x).config = s.config := rfl
@[simp] theorem State.setSlot_eu (s : State) (k : Fin 16) (x : Slot) : (s.setSlot k x).eu = s.eu := rfl
@[simp] theorem State.setSlot_llr (s : State) (k : Fin 16) (x : Slot) : (s.setSlot k x).llr = s.llr := rfl
@[simp] theorem State.setSlot_lst (s : State) (k : Fin 16) (x : Slot) : (s.setSlot k x).lst = s.lst := rfl
@[simp] theorem State.setSlot_tsu (s : State) (k : Fin 16) (x : Slot) : (s.setSlot k x).tsu = s.tsu := rfl
@[simp] theorem State.setSlot_ports (s : State) (k : Fin 16) (x : Slot) : (s.setSlot k x).ports = s.ports := rfl
@[simp] theorem State.setSlot_me (s : State) (k : Fin 16) (x : Slot) : (s.setSlot k x).me = s.me := rfl
@[simp] theorem State.setSlot_freeIndex (s : State) (k : Fin 16) (x : Slot) : (s.setSlot k x).freeIndex = s.freeIndex := rfl
@[simp] theorem State.setSlot_resetPhases (s : State) (k : Fin 16) (x : Slot) : (s.setSlot k x).resetPhases = s.resetPhases := rfl
@[simp] theorem State.setSlot_pending (s : State) (k : Fin 16) (x : Slot) : (s.setSlot k x).pending = s.pending := rfl

/-! `testCover` -/

@[simp] theorem State.testCover_time (s : State) : (s.testCover).time = s.time := rfl
@[simp] theorem State.testCover_cp (s : State) : (s.testCover).cp = s.cp := rfl
@[simp] theorem State.testCover_config (s : State) : (s.testCover).config = s.config := rfl
@[simp] theorem State.testCover_eu (s : State) : (s.testCover).eu = s.eu := rfl
@[simp] theorem State.testCover_llr (s : State) : (s.testCover).llr = s.llr := rfl
@[simp] theorem State.testCover_lst (s : State) : (s.testCover).lst = s.lst := rfl
@[simp] theorem State.testCover_tsu (s : State) : (s.testCover).tsu = s.tsu := rfl
@[simp] theorem State.testCover_store (s : State) : (s.testCover).store = s.store := rfl
@[simp] theorem State.testCover_me (s : State) : (s.testCover).me = s.me := rfl
@[simp] theorem State.testCover_freeIndex (s : State) : (s.testCover).freeIndex = s.freeIndex := rfl
@[simp] theorem State.testCover_resetPhases (s : State) : (s.testCover).resetPhases = s.resetPhases := rfl
@[simp] theorem State.testCover_pending (s : State) : (s.testCover).pending = s.pending := rfl

/-! `countIgnored` -/

@[simp] theorem State.countIgnored_time (s : State) : (s.countIgnored).time = s.time := rfl
@[simp] theorem State.countIgnored_cp (s : State) : (s.countIgnored).cp = s.cp := rfl
@[simp] theorem State.countIgnored_config (s : State) : (s.countIgnored).config = s.config := rfl
@[simp] theorem State.countIgnored_eu (s : State) : (s.countIgnored).eu = s.eu := rfl
@[simp] theorem State.countIgnored_llr (s : State) : (s.countIgnored).llr = s.llr := rfl
@[simp] theorem State.countIgnored_tsu (s : State) : (s.countIgnored).tsu = s.tsu := rfl
@[simp] theorem State.countIgnored_ports (s : State) : (s.countIgnored).ports = s.ports := rfl
@[simp] theorem State.countIgnored_store (s : State) : (s.countIgnored).store = s.store := rfl
@[simp] theorem State.countIgnored_me (s : State) : (s.countIgnored).me = s.me := rfl
@[simp] theorem State.countIgnored_freeIndex (s : State) : (s.countIgnored).freeIndex = s.freeIndex := rfl
@[simp] theorem State.countIgnored_resetPhases (s : State) : (s.countIgnored).resetPhases = s.resetPhases := rfl
@[simp] theorem State.countIgnored_pending (s : State) : (s.countIgnored).pending = s.pending := rfl

/-! `malformedFrame` -/

@[simp] theorem State.malformedFrame_time (s : State) : (s.malformedFrame).time = s.time := rfl
@[simp] theorem State.malformedFrame_cp (s : State) : (s.malformedFrame).cp = s.cp := rfl
@[simp] theorem State.malformedFrame_config (s : State) : (s.malformedFrame).config = s.config := rfl
@[simp] theorem State.malformedFrame_eu (s : State) : (s.malformedFrame).eu = s.eu := rfl
@[simp] theorem State.malformedFrame_lst (s : State) : (s.malformedFrame).lst = s.lst := rfl
@[simp] theorem State.malformedFrame_tsu (s : State) : (s.malformedFrame).tsu = s.tsu := rfl
@[simp] theorem State.malformedFrame_ports (s : State) : (s.malformedFrame).ports = s.ports := rfl
@[simp] theorem State.malformedFrame_store (s : State) : (s.malformedFrame).store = s.store := rfl
@[simp] theorem State.malformedFrame_me (s : State) : (s.malformedFrame).me = s.me := rfl
@[simp] theorem State.malformedFrame_freeIndex (s : State) : (s.malformedFrame).freeIndex = s.freeIndex := rfl
@[simp] theorem State.malformedFrame_resetPhases (s : State) : (s.malformedFrame).resetPhases = s.resetPhases := rfl
@[simp] theorem State.malformedFrame_pending (s : State) : (s.malformedFrame).pending = s.pending := rfl

/-! `openFrame` -/

@[simp] theorem State.openFrame_time (s : State) : (s.openFrame).time = s.time := rfl
@[simp] theorem State.openFrame_cp (s : State) : (s.openFrame).cp = s.cp := rfl
@[simp] theorem State.openFrame_config (s : State) : (s.openFrame).config = s.config := rfl
@[simp] theorem State.openFrame_eu (s : State) : (s.openFrame).eu = s.eu := rfl
@[simp] theorem State.openFrame_lst (s : State) : (s.openFrame).lst = s.lst := rfl
@[simp] theorem State.openFrame_tsu (s : State) : (s.openFrame).tsu = s.tsu := rfl
@[simp] theorem State.openFrame_ports (s : State) : (s.openFrame).ports = s.ports := rfl
@[simp] theorem State.openFrame_store (s : State) : (s.openFrame).store = s.store := rfl
@[simp] theorem State.openFrame_me (s : State) : (s.openFrame).me = s.me := rfl
@[simp] theorem State.openFrame_freeIndex (s : State) : (s.openFrame).freeIndex = s.freeIndex := rfl
@[simp] theorem State.openFrame_resetPhases (s : State) : (s.openFrame).resetPhases = s.resetPhases := rfl
@[simp] theorem State.openFrame_pending (s : State) : (s.openFrame).pending = s.pending := rfl

/-! `storeByte` -/

@[simp] theorem State.storeByte_time (s : State) (b : Byte) : (s.storeByte b).time = s.time := rfl
@[simp] theorem State.storeByte_cp (s : State) (b : Byte) : (s.storeByte b).cp = s.cp := rfl
@[simp] theorem State.storeByte_config (s : State) (b : Byte) : (s.storeByte b).config = s.config := rfl
@[simp] theorem State.storeByte_eu (s : State) (b : Byte) : (s.storeByte b).eu = s.eu := rfl
@[simp] theorem State.storeByte_lst (s : State) (b : Byte) : (s.storeByte b).lst = s.lst := rfl
@[simp] theorem State.storeByte_tsu (s : State) (b : Byte) : (s.storeByte b).tsu = s.tsu := rfl
@[simp] theorem State.storeByte_ports (s : State) (b : Byte) : (s.storeByte b).ports = s.ports := rfl
@[simp] theorem State.storeByte_store (s : State) (b : Byte) : (s.storeByte b).store = s.store := rfl
@[simp] theorem State.storeByte_me (s : State) (b : Byte) : (s.storeByte b).me = s.me := rfl
@[simp] theorem State.storeByte_freeIndex (s : State) (b : Byte) : (s.storeByte b).freeIndex = s.freeIndex := rfl
@[simp] theorem State.storeByte_resetPhases (s : State) (b : Byte) : (s.storeByte b).resetPhases = s.resetPhases := rfl
@[simp] theorem State.storeByte_pending (s : State) (b : Byte) : (s.storeByte b).pending = s.pending := rfl

/-! `clearBits` -/

@[simp] theorem State.clearBits_time (s : State) : (s.clearBits).time = s.time := rfl
@[simp] theorem State.clearBits_cp (s : State) : (s.clearBits).cp = s.cp := rfl
@[simp] theorem State.clearBits_config (s : State) : (s.clearBits).config = s.config := rfl
@[simp] theorem State.clearBits_eu (s : State) : (s.clearBits).eu = s.eu := rfl
@[simp] theorem State.clearBits_lst (s : State) : (s.clearBits).lst = s.lst := rfl
@[simp] theorem State.clearBits_tsu (s : State) : (s.clearBits).tsu = s.tsu := rfl
@[simp] theorem State.clearBits_ports (s : State) : (s.clearBits).ports = s.ports := rfl
@[simp] theorem State.clearBits_store (s : State) : (s.clearBits).store = s.store := rfl
@[simp] theorem State.clearBits_me (s : State) : (s.clearBits).me = s.me := rfl
@[simp] theorem State.clearBits_freeIndex (s : State) : (s.clearBits).freeIndex = s.freeIndex := rfl
@[simp] theorem State.clearBits_resetPhases (s : State) : (s.clearBits).resetPhases = s.resetPhases := rfl
@[simp] theorem State.clearBits_pending (s : State) : (s.clearBits).pending = s.pending := rfl

/-! `push` -/

@[simp] theorem State.push_time (s : State) (p : Port) (ws : List Word) : (s.push p ws).time = s.time := rfl
@[simp] theorem State.push_cp (s : State) (p : Port) (ws : List Word) : (s.push p ws).cp = s.cp := rfl
@[simp] theorem State.push_config (s : State) (p : Port) (ws : List Word) : (s.push p ws).config = s.config := rfl
@[simp] theorem State.push_eu (s : State) (p : Port) (ws : List Word) : (s.push p ws).eu = s.eu := rfl
@[simp] theorem State.push_llr (s : State) (p : Port) (ws : List Word) : (s.push p ws).llr = s.llr := rfl
@[simp] theorem State.push_lst (s : State) (p : Port) (ws : List Word) : (s.push p ws).lst = s.lst := rfl
@[simp] theorem State.push_tsu (s : State) (p : Port) (ws : List Word) : (s.push p ws).tsu = s.tsu := rfl
@[simp] theorem State.push_store (s : State) (p : Port) (ws : List Word) : (s.push p ws).store = s.store := rfl
@[simp] theorem State.push_me (s : State) (p : Port) (ws : List Word) : (s.push p ws).me = s.me := rfl
@[simp] theorem State.push_freeIndex (s : State) (p : Port) (ws : List Word) : (s.push p ws).freeIndex = s.freeIndex := rfl
@[simp] theorem State.push_resetPhases (s : State) (p : Port) (ws : List Word) : (s.push p ws).resetPhases = s.resetPhases := rfl
@[simp] theorem State.push_pending (s : State) (p : Port) (ws : List Word) : (s.push p ws).pending = s.pending := rfl

/-! `holdUnit` -/

@[simp] theorem State.holdUnit_time (s : State) (m : Mesh) (u : MeshUnit) : (s.holdUnit m u).time = s.time := rfl
@[simp] theorem State.holdUnit_cp (s : State) (m : Mesh) (u : MeshUnit) : (s.holdUnit m u).cp = s.cp := rfl
@[simp] theorem State.holdUnit_config (s : State) (m : Mesh) (u : MeshUnit) : (s.holdUnit m u).config = s.config := rfl
@[simp] theorem State.holdUnit_eu (s : State) (m : Mesh) (u : MeshUnit) : (s.holdUnit m u).eu = s.eu := rfl
@[simp] theorem State.holdUnit_llr (s : State) (m : Mesh) (u : MeshUnit) : (s.holdUnit m u).llr = s.llr := rfl
@[simp] theorem State.holdUnit_lst (s : State) (m : Mesh) (u : MeshUnit) : (s.holdUnit m u).lst = s.lst := rfl
@[simp] theorem State.holdUnit_tsu (s : State) (m : Mesh) (u : MeshUnit) : (s.holdUnit m u).tsu = s.tsu := rfl
@[simp] theorem State.holdUnit_ports (s : State) (m : Mesh) (u : MeshUnit) : (s.holdUnit m u).ports = s.ports := rfl
@[simp] theorem State.holdUnit_store (s : State) (m : Mesh) (u : MeshUnit) : (s.holdUnit m u).store = s.store := rfl
@[simp] theorem State.holdUnit_freeIndex (s : State) (m : Mesh) (u : MeshUnit) : (s.holdUnit m u).freeIndex = s.freeIndex := rfl
@[simp] theorem State.holdUnit_resetPhases (s : State) (m : Mesh) (u : MeshUnit) : (s.holdUnit m u).resetPhases = s.resetPhases := rfl
@[simp] theorem State.holdUnit_pending (s : State) (m : Mesh) (u : MeshUnit) : (s.holdUnit m u).pending = s.pending := rfl

/-! `reachRow` -/

@[simp] theorem State.reachRow_time (s : State) (m : Mesh) : (s.reachRow m).time = s.time := rfl
@[simp] theorem State.reachRow_cp (s : State) (m : Mesh) : (s.reachRow m).cp = s.cp := rfl
@[simp] theorem State.reachRow_config (s : State) (m : Mesh) : (s.reachRow m).config = s.config := rfl
@[simp] theorem State.reachRow_eu (s : State) (m : Mesh) : (s.reachRow m).eu = s.eu := rfl
@[simp] theorem State.reachRow_llr (s : State) (m : Mesh) : (s.reachRow m).llr = s.llr := rfl
@[simp] theorem State.reachRow_lst (s : State) (m : Mesh) : (s.reachRow m).lst = s.lst := rfl
@[simp] theorem State.reachRow_tsu (s : State) (m : Mesh) : (s.reachRow m).tsu = s.tsu := rfl
@[simp] theorem State.reachRow_ports (s : State) (m : Mesh) : (s.reachRow m).ports = s.ports := rfl
@[simp] theorem State.reachRow_store (s : State) (m : Mesh) : (s.reachRow m).store = s.store := rfl
@[simp] theorem State.reachRow_freeIndex (s : State) (m : Mesh) : (s.reachRow m).freeIndex = s.freeIndex := rfl
@[simp] theorem State.reachRow_resetPhases (s : State) (m : Mesh) : (s.reachRow m).resetPhases = s.resetPhases := rfl
@[simp] theorem State.reachRow_pending (s : State) (m : Mesh) : (s.reachRow m).pending = s.pending := rfl

/-! `readAddress` -/

@[simp] theorem State.readAddress_time (s : State) (i : EffectItem) : (s.readAddress i).time = s.time := rfl
@[simp] theorem State.readAddress_config (s : State) (i : EffectItem) : (s.readAddress i).config = s.config := rfl
@[simp] theorem State.readAddress_eu (s : State) (i : EffectItem) : (s.readAddress i).eu = s.eu := rfl
@[simp] theorem State.readAddress_llr (s : State) (i : EffectItem) : (s.readAddress i).llr = s.llr := rfl
@[simp] theorem State.readAddress_lst (s : State) (i : EffectItem) : (s.readAddress i).lst = s.lst := rfl
@[simp] theorem State.readAddress_tsu (s : State) (i : EffectItem) : (s.readAddress i).tsu = s.tsu := rfl
@[simp] theorem State.readAddress_ports (s : State) (i : EffectItem) : (s.readAddress i).ports = s.ports := rfl
@[simp] theorem State.readAddress_store (s : State) (i : EffectItem) : (s.readAddress i).store = s.store := rfl
@[simp] theorem State.readAddress_me (s : State) (i : EffectItem) : (s.readAddress i).me = s.me := rfl
@[simp] theorem State.readAddress_freeIndex (s : State) (i : EffectItem) : (s.readAddress i).freeIndex = s.freeIndex := rfl
@[simp] theorem State.readAddress_resetPhases (s : State) (i : EffectItem) : (s.readAddress i).resetPhases = s.resetPhases := rfl
@[simp] theorem State.readAddress_pending (s : State) (i : EffectItem) : (s.readAddress i).pending = s.pending := rfl

/-! `readCut` -/

@[simp] theorem State.readCut_time (s : State) : (s.readCut).time = s.time := rfl
@[simp] theorem State.readCut_config (s : State) : (s.readCut).config = s.config := rfl
@[simp] theorem State.readCut_eu (s : State) : (s.readCut).eu = s.eu := rfl
@[simp] theorem State.readCut_llr (s : State) : (s.readCut).llr = s.llr := rfl
@[simp] theorem State.readCut_lst (s : State) : (s.readCut).lst = s.lst := rfl
@[simp] theorem State.readCut_tsu (s : State) : (s.readCut).tsu = s.tsu := rfl
@[simp] theorem State.readCut_ports (s : State) : (s.readCut).ports = s.ports := rfl
@[simp] theorem State.readCut_store (s : State) : (s.readCut).store = s.store := rfl
@[simp] theorem State.readCut_me (s : State) : (s.readCut).me = s.me := rfl
@[simp] theorem State.readCut_freeIndex (s : State) : (s.readCut).freeIndex = s.freeIndex := rfl
@[simp] theorem State.readCut_resetPhases (s : State) : (s.readCut).resetPhases = s.resetPhases := rfl
@[simp] theorem State.readCut_pending (s : State) : (s.readCut).pending = s.pending := rfl

/-! `violate` -/

@[simp] theorem State.violate_time (s : State) : (s.violate).time = s.time := rfl
@[simp] theorem State.violate_cp (s : State) : (s.violate).cp = s.cp := rfl
@[simp] theorem State.violate_config (s : State) : (s.violate).config = s.config := rfl
@[simp] theorem State.violate_llr (s : State) : (s.violate).llr = s.llr := rfl
@[simp] theorem State.violate_lst (s : State) : (s.violate).lst = s.lst := rfl
@[simp] theorem State.violate_tsu (s : State) : (s.violate).tsu = s.tsu := rfl
@[simp] theorem State.violate_ports (s : State) : (s.violate).ports = s.ports := rfl
@[simp] theorem State.violate_store (s : State) : (s.violate).store = s.store := rfl
@[simp] theorem State.violate_me (s : State) : (s.violate).me = s.me := rfl
@[simp] theorem State.violate_freeIndex (s : State) : (s.violate).freeIndex = s.freeIndex := rfl
@[simp] theorem State.violate_resetPhases (s : State) : (s.violate).resetPhases = s.resetPhases := rfl
@[simp] theorem State.violate_pending (s : State) : (s.violate).pending = s.pending := rfl

/-! `respond` -/

@[simp] theorem State.respond_time (s : State) (st : Status) (args : List Byte) : (s.respond st args).time = s.time := rfl
@[simp] theorem State.respond_config (s : State) (st : Status) (args : List Byte) : (s.respond st args).config = s.config := rfl
@[simp] theorem State.respond_llr (s : State) (st : Status) (args : List Byte) : (s.respond st args).llr = s.llr := rfl
@[simp] theorem State.respond_lst (s : State) (st : Status) (args : List Byte) : (s.respond st args).lst = s.lst := rfl
@[simp] theorem State.respond_tsu (s : State) (st : Status) (args : List Byte) : (s.respond st args).tsu = s.tsu := rfl
@[simp] theorem State.respond_ports (s : State) (st : Status) (args : List Byte) : (s.respond st args).ports = s.ports := rfl
@[simp] theorem State.respond_store (s : State) (st : Status) (args : List Byte) : (s.respond st args).store = s.store := rfl
@[simp] theorem State.respond_me (s : State) (st : Status) (args : List Byte) : (s.respond st args).me = s.me := rfl
@[simp] theorem State.respond_freeIndex (s : State) (st : Status) (args : List Byte) : (s.respond st args).freeIndex = s.freeIndex := rfl
@[simp] theorem State.respond_resetPhases (s : State) (st : Status) (args : List Byte) : (s.respond st args).resetPhases = s.resetPhases := rfl
@[simp] theorem State.respond_pending (s : State) (st : Status) (args : List Byte) : (s.respond st args).pending = s.pending := rfl

/-! `badArgument` -/

@[simp] theorem State.badArgument_time (s : State) (n : Nat) : (s.badArgument n).time = s.time := rfl
@[simp] theorem State.badArgument_config (s : State) (n : Nat) : (s.badArgument n).config = s.config := rfl
@[simp] theorem State.badArgument_llr (s : State) (n : Nat) : (s.badArgument n).llr = s.llr := rfl
@[simp] theorem State.badArgument_lst (s : State) (n : Nat) : (s.badArgument n).lst = s.lst := rfl
@[simp] theorem State.badArgument_tsu (s : State) (n : Nat) : (s.badArgument n).tsu = s.tsu := rfl
@[simp] theorem State.badArgument_ports (s : State) (n : Nat) : (s.badArgument n).ports = s.ports := rfl
@[simp] theorem State.badArgument_store (s : State) (n : Nat) : (s.badArgument n).store = s.store := rfl
@[simp] theorem State.badArgument_me (s : State) (n : Nat) : (s.badArgument n).me = s.me := rfl
@[simp] theorem State.badArgument_freeIndex (s : State) (n : Nat) : (s.badArgument n).freeIndex = s.freeIndex := rfl
@[simp] theorem State.badArgument_resetPhases (s : State) (n : Nat) : (s.badArgument n).resetPhases = s.resetPhases := rfl
@[simp] theorem State.badArgument_pending (s : State) (n : Nat) : (s.badArgument n).pending = s.pending := rfl

/-! `resolvePending` -/

@[simp] theorem State.resolvePending_time (s : State) (p : Port) (r : StrobeRecord) : (s.resolvePending p r).time = s.time := rfl
@[simp] theorem State.resolvePending_cp (s : State) (p : Port) (r : StrobeRecord) : (s.resolvePending p r).cp = s.cp := rfl
@[simp] theorem State.resolvePending_config (s : State) (p : Port) (r : StrobeRecord) : (s.resolvePending p r).config = s.config := rfl
@[simp] theorem State.resolvePending_eu (s : State) (p : Port) (r : StrobeRecord) : (s.resolvePending p r).eu = s.eu := rfl
@[simp] theorem State.resolvePending_llr (s : State) (p : Port) (r : StrobeRecord) : (s.resolvePending p r).llr = s.llr := rfl
@[simp] theorem State.resolvePending_lst (s : State) (p : Port) (r : StrobeRecord) : (s.resolvePending p r).lst = s.lst := rfl
@[simp] theorem State.resolvePending_tsu (s : State) (p : Port) (r : StrobeRecord) : (s.resolvePending p r).tsu = s.tsu := rfl
@[simp] theorem State.resolvePending_store (s : State) (p : Port) (r : StrobeRecord) : (s.resolvePending p r).store = s.store := rfl
@[simp] theorem State.resolvePending_me (s : State) (p : Port) (r : StrobeRecord) : (s.resolvePending p r).me = s.me := rfl
@[simp] theorem State.resolvePending_freeIndex (s : State) (p : Port) (r : StrobeRecord) : (s.resolvePending p r).freeIndex = s.freeIndex := rfl
@[simp] theorem State.resolvePending_resetPhases (s : State) (p : Port) (r : StrobeRecord) : (s.resolvePending p r).resetPhases = s.resetPhases := rfl
@[simp] theorem State.resolvePending_pending (s : State) (p : Port) (r : StrobeRecord) : (s.resolvePending p r).pending = s.pending := rfl

/-! `makeStrobeRequest` -/

@[simp] theorem State.makeStrobeRequest_time (s : State) (p : Port) (r : StrobeRecord) (k : Fin 4) : (s.makeStrobeRequest p r k).time = s.time := rfl
@[simp] theorem State.makeStrobeRequest_cp (s : State) (p : Port) (r : StrobeRecord) (k : Fin 4) : (s.makeStrobeRequest p r k).cp = s.cp := rfl
@[simp] theorem State.makeStrobeRequest_config (s : State) (p : Port) (r : StrobeRecord) (k : Fin 4) : (s.makeStrobeRequest p r k).config = s.config := rfl
@[simp] theorem State.makeStrobeRequest_eu (s : State) (p : Port) (r : StrobeRecord) (k : Fin 4) : (s.makeStrobeRequest p r k).eu = s.eu := rfl
@[simp] theorem State.makeStrobeRequest_llr (s : State) (p : Port) (r : StrobeRecord) (k : Fin 4) : (s.makeStrobeRequest p r k).llr = s.llr := rfl
@[simp] theorem State.makeStrobeRequest_lst (s : State) (p : Port) (r : StrobeRecord) (k : Fin 4) : (s.makeStrobeRequest p r k).lst = s.lst := rfl
@[simp] theorem State.makeStrobeRequest_tsu (s : State) (p : Port) (r : StrobeRecord) (k : Fin 4) : (s.makeStrobeRequest p r k).tsu = s.tsu := rfl
@[simp] theorem State.makeStrobeRequest_store (s : State) (p : Port) (r : StrobeRecord) (k : Fin 4) : (s.makeStrobeRequest p r k).store = s.store := rfl
@[simp] theorem State.makeStrobeRequest_me (s : State) (p : Port) (r : StrobeRecord) (k : Fin 4) : (s.makeStrobeRequest p r k).me = s.me := rfl
@[simp] theorem State.makeStrobeRequest_freeIndex (s : State) (p : Port) (r : StrobeRecord) (k : Fin 4) : (s.makeStrobeRequest p r k).freeIndex = s.freeIndex := rfl
@[simp] theorem State.makeStrobeRequest_resetPhases (s : State) (p : Port) (r : StrobeRecord) (k : Fin 4) : (s.makeStrobeRequest p r k).resetPhases = s.resetPhases := rfl
@[simp] theorem State.makeStrobeRequest_pending (s : State) (p : Port) (r : StrobeRecord) (k : Fin 4) : (s.makeStrobeRequest p r k).pending = s.pending := rfl

/-! `dropStrobe` -/

@[simp] theorem State.dropStrobe_time (s : State) (p : Port) : (s.dropStrobe p).time = s.time := rfl
@[simp] theorem State.dropStrobe_cp (s : State) (p : Port) : (s.dropStrobe p).cp = s.cp := rfl
@[simp] theorem State.dropStrobe_config (s : State) (p : Port) : (s.dropStrobe p).config = s.config := rfl
@[simp] theorem State.dropStrobe_llr (s : State) (p : Port) : (s.dropStrobe p).llr = s.llr := rfl
@[simp] theorem State.dropStrobe_lst (s : State) (p : Port) : (s.dropStrobe p).lst = s.lst := rfl
@[simp] theorem State.dropStrobe_tsu (s : State) (p : Port) : (s.dropStrobe p).tsu = s.tsu := rfl
@[simp] theorem State.dropStrobe_store (s : State) (p : Port) : (s.dropStrobe p).store = s.store := rfl
@[simp] theorem State.dropStrobe_me (s : State) (p : Port) : (s.dropStrobe p).me = s.me := rfl
@[simp] theorem State.dropStrobe_freeIndex (s : State) (p : Port) : (s.dropStrobe p).freeIndex = s.freeIndex := rfl
@[simp] theorem State.dropStrobe_resetPhases (s : State) (p : Port) : (s.dropStrobe p).resetPhases = s.resetPhases := rfl
@[simp] theorem State.dropStrobe_pending (s : State) (p : Port) : (s.dropStrobe p).pending = s.pending := rfl

/-! `refuseRecord` -/

@[simp] theorem State.refuseRecord_time (s : State) (p : Port) (f : RequestFields) (c : RefusalCode) : (s.refuseRecord p f c).time = s.time := rfl
@[simp] theorem State.refuseRecord_cp (s : State) (p : Port) (f : RequestFields) (c : RefusalCode) : (s.refuseRecord p f c).cp = s.cp := rfl
@[simp] theorem State.refuseRecord_config (s : State) (p : Port) (f : RequestFields) (c : RefusalCode) : (s.refuseRecord p f c).config = s.config := rfl
@[simp] theorem State.refuseRecord_eu (s : State) (p : Port) (f : RequestFields) (c : RefusalCode) : (s.refuseRecord p f c).eu = s.eu := rfl
@[simp] theorem State.refuseRecord_llr (s : State) (p : Port) (f : RequestFields) (c : RefusalCode) : (s.refuseRecord p f c).llr = s.llr := rfl
@[simp] theorem State.refuseRecord_lst (s : State) (p : Port) (f : RequestFields) (c : RefusalCode) : (s.refuseRecord p f c).lst = s.lst := rfl
@[simp] theorem State.refuseRecord_tsu (s : State) (p : Port) (f : RequestFields) (c : RefusalCode) : (s.refuseRecord p f c).tsu = s.tsu := rfl
@[simp] theorem State.refuseRecord_store (s : State) (p : Port) (f : RequestFields) (c : RefusalCode) : (s.refuseRecord p f c).store = s.store := rfl
@[simp] theorem State.refuseRecord_me (s : State) (p : Port) (f : RequestFields) (c : RefusalCode) : (s.refuseRecord p f c).me = s.me := rfl
@[simp] theorem State.refuseRecord_freeIndex (s : State) (p : Port) (f : RequestFields) (c : RefusalCode) : (s.refuseRecord p f c).freeIndex = s.freeIndex := rfl
@[simp] theorem State.refuseRecord_resetPhases (s : State) (p : Port) (f : RequestFields) (c : RefusalCode) : (s.refuseRecord p f c).resetPhases = s.resetPhases := rfl
@[simp] theorem State.refuseRecord_pending (s : State) (p : Port) (f : RequestFields) (c : RefusalCode) : (s.refuseRecord p f c).pending = s.pending := rfl

/-! `acceptRecord` -/

@[simp] theorem State.acceptRecord_time (s : State) (p : Port) (f : RequestFields) (k : Fin 4) : (s.acceptRecord p f k).time = s.time := rfl
@[simp] theorem State.acceptRecord_cp (s : State) (p : Port) (f : RequestFields) (k : Fin 4) : (s.acceptRecord p f k).cp = s.cp := rfl
@[simp] theorem State.acceptRecord_config (s : State) (p : Port) (f : RequestFields) (k : Fin 4) : (s.acceptRecord p f k).config = s.config := rfl
@[simp] theorem State.acceptRecord_eu (s : State) (p : Port) (f : RequestFields) (k : Fin 4) : (s.acceptRecord p f k).eu = s.eu := rfl
@[simp] theorem State.acceptRecord_llr (s : State) (p : Port) (f : RequestFields) (k : Fin 4) : (s.acceptRecord p f k).llr = s.llr := rfl
@[simp] theorem State.acceptRecord_lst (s : State) (p : Port) (f : RequestFields) (k : Fin 4) : (s.acceptRecord p f k).lst = s.lst := rfl
@[simp] theorem State.acceptRecord_tsu (s : State) (p : Port) (f : RequestFields) (k : Fin 4) : (s.acceptRecord p f k).tsu = s.tsu := rfl
@[simp] theorem State.acceptRecord_store (s : State) (p : Port) (f : RequestFields) (k : Fin 4) : (s.acceptRecord p f k).store = s.store := rfl
@[simp] theorem State.acceptRecord_me (s : State) (p : Port) (f : RequestFields) (k : Fin 4) : (s.acceptRecord p f k).me = s.me := rfl
@[simp] theorem State.acceptRecord_freeIndex (s : State) (p : Port) (f : RequestFields) (k : Fin 4) : (s.acceptRecord p f k).freeIndex = s.freeIndex := rfl
@[simp] theorem State.acceptRecord_resetPhases (s : State) (p : Port) (f : RequestFields) (k : Fin 4) : (s.acceptRecord p f k).resetPhases = s.resetPhases := rfl
@[simp] theorem State.acceptRecord_pending (s : State) (p : Port) (f : RequestFields) (k : Fin 4) : (s.acceptRecord p f k).pending = s.pending := rfl

/-! `changeSource` -/

@[simp] theorem State.changeSource_time (s : State) (f : Feed) (b : Bool) : (s.changeSource f b).time = s.time := rfl
@[simp] theorem State.changeSource_cp (s : State) (f : Feed) (b : Bool) : (s.changeSource f b).cp = s.cp := rfl
@[simp] theorem State.changeSource_config (s : State) (f : Feed) (b : Bool) : (s.changeSource f b).config = s.config := rfl
@[simp] theorem State.changeSource_llr (s : State) (f : Feed) (b : Bool) : (s.changeSource f b).llr = s.llr := rfl
@[simp] theorem State.changeSource_tsu (s : State) (f : Feed) (b : Bool) : (s.changeSource f b).tsu = s.tsu := rfl
@[simp] theorem State.changeSource_store (s : State) (f : Feed) (b : Bool) : (s.changeSource f b).store = s.store := rfl
@[simp] theorem State.changeSource_me (s : State) (f : Feed) (b : Bool) : (s.changeSource f b).me = s.me := rfl
@[simp] theorem State.changeSource_freeIndex (s : State) (f : Feed) (b : Bool) : (s.changeSource f b).freeIndex = s.freeIndex := rfl
@[simp] theorem State.changeSource_resetPhases (s : State) (f : Feed) (b : Bool) : (s.changeSource f b).resetPhases = s.resetPhases := rfl
@[simp] theorem State.changeSource_pending (s : State) (f : Feed) (b : Bool) : (s.changeSource f b).pending = s.pending := rfl

/-! `detach` -/

@[simp] theorem State.detach_time (s : State) : (s.detach).time = s.time := rfl
@[simp] theorem State.detach_cp (s : State) : (s.detach).cp = s.cp := rfl
@[simp] theorem State.detach_config (s : State) : (s.detach).config = s.config := rfl
@[simp] theorem State.detach_llr (s : State) : (s.detach).llr = s.llr := rfl
@[simp] theorem State.detach_tsu (s : State) : (s.detach).tsu = s.tsu := rfl
@[simp] theorem State.detach_store (s : State) : (s.detach).store = s.store := rfl
@[simp] theorem State.detach_me (s : State) : (s.detach).me = s.me := rfl
@[simp] theorem State.detach_freeIndex (s : State) : (s.detach).freeIndex = s.freeIndex := rfl
@[simp] theorem State.detach_resetPhases (s : State) : (s.detach).resetPhases = s.resetPhases := rfl
@[simp] theorem State.detach_pending (s : State) : (s.detach).pending = s.pending := rfl

/-! `applyCommit` -/

@[simp] theorem State.applyCommit_time (s : State) (k : Fin 16) (p : Staged) : (s.applyCommit k p).time = s.time := rfl
@[simp] theorem State.applyCommit_cp (s : State) (k : Fin 16) (p : Staged) : (s.applyCommit k p).cp = s.cp := rfl
@[simp] theorem State.applyCommit_config (s : State) (k : Fin 16) (p : Staged) : (s.applyCommit k p).config = s.config := rfl
@[simp] theorem State.applyCommit_llr (s : State) (k : Fin 16) (p : Staged) : (s.applyCommit k p).llr = s.llr := rfl
@[simp] theorem State.applyCommit_lst (s : State) (k : Fin 16) (p : Staged) : (s.applyCommit k p).lst = s.lst := rfl
@[simp] theorem State.applyCommit_tsu (s : State) (k : Fin 16) (p : Staged) : (s.applyCommit k p).tsu = s.tsu := rfl
@[simp] theorem State.applyCommit_ports (s : State) (k : Fin 16) (p : Staged) : (s.applyCommit k p).ports = s.ports := rfl
@[simp] theorem State.applyCommit_me (s : State) (k : Fin 16) (p : Staged) : (s.applyCommit k p).me = s.me := rfl
@[simp] theorem State.applyCommit_freeIndex (s : State) (k : Fin 16) (p : Staged) : (s.applyCommit k p).freeIndex = s.freeIndex := rfl
@[simp] theorem State.applyCommit_resetPhases (s : State) (k : Fin 16) (p : Staged) : (s.applyCommit k p).resetPhases = s.resetPhases := rfl
@[simp] theorem State.applyCommit_pending (s : State) (k : Fin 16) (p : Staged) : (s.applyCommit k p).pending = s.pending := rfl

/-! `applyDelete` -/

@[simp] theorem State.applyDelete_time (s : State) (k : Fin 16) : (s.applyDelete k).time = s.time := rfl
@[simp] theorem State.applyDelete_cp (s : State) (k : Fin 16) : (s.applyDelete k).cp = s.cp := rfl
@[simp] theorem State.applyDelete_config (s : State) (k : Fin 16) : (s.applyDelete k).config = s.config := rfl
@[simp] theorem State.applyDelete_llr (s : State) (k : Fin 16) : (s.applyDelete k).llr = s.llr := rfl
@[simp] theorem State.applyDelete_tsu (s : State) (k : Fin 16) : (s.applyDelete k).tsu = s.tsu := rfl
@[simp] theorem State.applyDelete_ports (s : State) (k : Fin 16) : (s.applyDelete k).ports = s.ports := rfl
@[simp] theorem State.applyDelete_me (s : State) (k : Fin 16) : (s.applyDelete k).me = s.me := rfl
@[simp] theorem State.applyDelete_freeIndex (s : State) (k : Fin 16) : (s.applyDelete k).freeIndex = s.freeIndex := rfl
@[simp] theorem State.applyDelete_resetPhases (s : State) (k : Fin 16) : (s.applyDelete k).resetPhases = s.resetPhases := rfl
@[simp] theorem State.applyDelete_pending (s : State) (k : Fin 16) : (s.applyDelete k).pending = s.pending := rfl

/-! `coreReset` -/

@[simp] theorem State.coreReset_time (s : State) : (s.coreReset).time = s.time := rfl
@[simp] theorem State.coreReset_freeIndex (s : State) : (s.coreReset).freeIndex = s.freeIndex := rfl
@[simp] theorem State.coreReset_resetPhases (s : State) : (s.coreReset).resetPhases = s.resetPhases := rfl
@[simp] theorem State.coreReset_pending (s : State) : (s.coreReset).pending = s.pending := rfl

/-! `wholeReset` -/

@[simp] theorem State.wholeReset_freeIndex (s : State) (c : ResetCause) : (s.wholeReset c).freeIndex = s.freeIndex := rfl
@[simp] theorem State.wholeReset_resetPhases (s : State) (c : ResetCause) : (s.wholeReset c).resetPhases = s.resetPhases := rfl
@[simp] theorem State.wholeReset_pending (s : State) (c : ResetCause) : (s.wholeReset c).pending = s.pending := rfl

/-! `heldReset` -/

@[simp] theorem State.heldReset_freeIndex (s : State) (h : Hold) : (s.heldReset h).freeIndex = s.freeIndex := rfl
@[simp] theorem State.heldReset_resetPhases (s : State) (h : Hold) : (s.heldReset h).resetPhases = s.resetPhases := rfl
@[simp] theorem State.heldReset_pending (s : State) (h : Hold) : (s.heldReset h).pending = s.pending := rfl

end Sys2Proof.Machine
end

