-- ==== Sys2Proof/Laws/Frames.lean ====
section
/-! SUPPORT. The frame of every operation on State that branches: one lemma for each field it leaves as it was. -/

namespace Sys2Proof.Machine

/-! `releaseStore` -/

@[simp] theorem State.releaseStore_time (s : State) : (s.releaseStore).time = s.time := by unfold State.releaseStore; (repeat' split) <;> simp
@[simp] theorem State.releaseStore_cp (s : State) : (s.releaseStore).cp = s.cp := by unfold State.releaseStore; (repeat' split) <;> simp
@[simp] theorem State.releaseStore_config (s : State) : (s.releaseStore).config = s.config := by unfold State.releaseStore; (repeat' split) <;> simp
@[simp] theorem State.releaseStore_llr (s : State) : (s.releaseStore).llr = s.llr := by unfold State.releaseStore; (repeat' split) <;> simp
@[simp] theorem State.releaseStore_tsu (s : State) : (s.releaseStore).tsu = s.tsu := by unfold State.releaseStore; (repeat' split) <;> simp
@[simp] theorem State.releaseStore_ports (s : State) : (s.releaseStore).ports = s.ports := by unfold State.releaseStore; (repeat' split) <;> simp
@[simp] theorem State.releaseStore_me (s : State) : (s.releaseStore).me = s.me := by unfold State.releaseStore; (repeat' split) <;> simp
@[simp] theorem State.releaseStore_freeIndex (s : State) : (s.releaseStore).freeIndex = s.freeIndex := by unfold State.releaseStore; (repeat' split) <;> simp
@[simp] theorem State.releaseStore_resetPhases (s : State) : (s.releaseStore).resetPhases = s.resetPhases := by unfold State.releaseStore; (repeat' split) <;> simp
@[simp] theorem State.releaseStore_pending (s : State) : (s.releaseStore).pending = s.pending := by unfold State.releaseStore; (repeat' split) <;> simp

/-! `profileCheck` -/

@[simp] theorem State.profileCheck_time (s : State) : (s.profileCheck).time = s.time := by unfold State.profileCheck; (repeat' split) <;> simp
@[simp] theorem State.profileCheck_cp (s : State) : (s.profileCheck).cp = s.cp := by unfold State.profileCheck; (repeat' split) <;> simp
@[simp] theorem State.profileCheck_config (s : State) : (s.profileCheck).config = s.config := by unfold State.profileCheck; (repeat' split) <;> simp
@[simp] theorem State.profileCheck_llr (s : State) : (s.profileCheck).llr = s.llr := by unfold State.profileCheck; (repeat' split) <;> simp
@[simp] theorem State.profileCheck_lst (s : State) : (s.profileCheck).lst = s.lst := by unfold State.profileCheck; (repeat' split) <;> simp
@[simp] theorem State.profileCheck_tsu (s : State) : (s.profileCheck).tsu = s.tsu := by unfold State.profileCheck; (repeat' split) <;> simp
@[simp] theorem State.profileCheck_ports (s : State) : (s.profileCheck).ports = s.ports := by unfold State.profileCheck; (repeat' split) <;> simp
@[simp] theorem State.profileCheck_store (s : State) : (s.profileCheck).store = s.store := by unfold State.profileCheck; (repeat' split) <;> simp
@[simp] theorem State.profileCheck_me (s : State) : (s.profileCheck).me = s.me := by unfold State.profileCheck; (repeat' split) <;> simp
@[simp] theorem State.profileCheck_freeIndex (s : State) : (s.profileCheck).freeIndex = s.freeIndex := by unfold State.profileCheck; (repeat' split) <;> simp
@[simp] theorem State.profileCheck_resetPhases (s : State) : (s.profileCheck).resetPhases = s.resetPhases := by unfold State.profileCheck; (repeat' split) <;> simp
@[simp] theorem State.profileCheck_pending (s : State) : (s.profileCheck).pending = s.pending := by unfold State.profileCheck; (repeat' split) <;> simp

/-! `setFresh` -/

@[simp] theorem State.setFresh_time (s : State) (f : Feed) (b : Bool) : (s.setFresh f b).time = s.time := by cases f <;> rfl
@[simp] theorem State.setFresh_cp (s : State) (f : Feed) (b : Bool) : (s.setFresh f b).cp = s.cp := by cases f <;> rfl
@[simp] theorem State.setFresh_config (s : State) (f : Feed) (b : Bool) : (s.setFresh f b).config = s.config := by cases f <;> rfl
@[simp] theorem State.setFresh_eu (s : State) (f : Feed) (b : Bool) : (s.setFresh f b).eu = s.eu := by cases f <;> rfl
@[simp] theorem State.setFresh_tsu (s : State) (f : Feed) (b : Bool) : (s.setFresh f b).tsu = s.tsu := by cases f <;> rfl
@[simp] theorem State.setFresh_ports (s : State) (f : Feed) (b : Bool) : (s.setFresh f b).ports = s.ports := by cases f <;> rfl
@[simp] theorem State.setFresh_store (s : State) (f : Feed) (b : Bool) : (s.setFresh f b).store = s.store := by cases f <;> rfl
@[simp] theorem State.setFresh_me (s : State) (f : Feed) (b : Bool) : (s.setFresh f b).me = s.me := by cases f <;> rfl
@[simp] theorem State.setFresh_freeIndex (s : State) (f : Feed) (b : Bool) : (s.setFresh f b).freeIndex = s.freeIndex := by cases f <;> rfl
@[simp] theorem State.setFresh_resetPhases (s : State) (f : Feed) (b : Bool) : (s.setFresh f b).resetPhases = s.resetPhases := by cases f <;> rfl
@[simp] theorem State.setFresh_pending (s : State) (f : Feed) (b : Bool) : (s.setFresh f b).pending = s.pending := by cases f <;> rfl

/-! `becomeStale` -/

@[simp] theorem State.becomeStale_time (s : State) (f : Feed) : (s.becomeStale f).time = s.time := by simp [State.becomeStale]
@[simp] theorem State.becomeStale_cp (s : State) (f : Feed) : (s.becomeStale f).cp = s.cp := by simp [State.becomeStale]
@[simp] theorem State.becomeStale_config (s : State) (f : Feed) : (s.becomeStale f).config = s.config := by simp [State.becomeStale]
@[simp] theorem State.becomeStale_tsu (s : State) (f : Feed) : (s.becomeStale f).tsu = s.tsu := by simp [State.becomeStale]
@[simp] theorem State.becomeStale_store (s : State) (f : Feed) : (s.becomeStale f).store = s.store := by simp [State.becomeStale]
@[simp] theorem State.becomeStale_me (s : State) (f : Feed) : (s.becomeStale f).me = s.me := by simp [State.becomeStale]
@[simp] theorem State.becomeStale_freeIndex (s : State) (f : Feed) : (s.becomeStale f).freeIndex = s.freeIndex := by simp [State.becomeStale]
@[simp] theorem State.becomeStale_resetPhases (s : State) (f : Feed) : (s.becomeStale f).resetPhases = s.resetPhases := by simp [State.becomeStale]
@[simp] theorem State.becomeStale_pending (s : State) (f : Feed) : (s.becomeStale f).pending = s.pending := by simp [State.becomeStale]

/-! `becomeFresh` -/

@[simp] theorem State.becomeFresh_time (s : State) (f : Feed) : (s.becomeFresh f).time = s.time := by simp [State.becomeFresh]
@[simp] theorem State.becomeFresh_cp (s : State) (f : Feed) : (s.becomeFresh f).cp = s.cp := by simp [State.becomeFresh]
@[simp] theorem State.becomeFresh_config (s : State) (f : Feed) : (s.becomeFresh f).config = s.config := by simp [State.becomeFresh]
@[simp] theorem State.becomeFresh_tsu (s : State) (f : Feed) : (s.becomeFresh f).tsu = s.tsu := by simp [State.becomeFresh]
@[simp] theorem State.becomeFresh_store (s : State) (f : Feed) : (s.becomeFresh f).store = s.store := by simp [State.becomeFresh]
@[simp] theorem State.becomeFresh_me (s : State) (f : Feed) : (s.becomeFresh f).me = s.me := by simp [State.becomeFresh]
@[simp] theorem State.becomeFresh_freeIndex (s : State) (f : Feed) : (s.becomeFresh f).freeIndex = s.freeIndex := by simp [State.becomeFresh]
@[simp] theorem State.becomeFresh_resetPhases (s : State) (f : Feed) : (s.becomeFresh f).resetPhases = s.resetPhases := by simp [State.becomeFresh]
@[simp] theorem State.becomeFresh_pending (s : State) (f : Feed) : (s.becomeFresh f).pending = s.pending := by simp [State.becomeFresh]

/-! `failover` -/

@[simp] theorem State.failover_time (s : State) : (s.failover).time = s.time := by unfold State.failover; (repeat' split) <;> simp
@[simp] theorem State.failover_cp (s : State) : (s.failover).cp = s.cp := by unfold State.failover; (repeat' split) <;> simp
@[simp] theorem State.failover_config (s : State) : (s.failover).config = s.config := by unfold State.failover; (repeat' split) <;> simp
@[simp] theorem State.failover_llr (s : State) : (s.failover).llr = s.llr := by unfold State.failover; (repeat' split) <;> simp
@[simp] theorem State.failover_tsu (s : State) : (s.failover).tsu = s.tsu := by unfold State.failover; (repeat' split) <;> simp
@[simp] theorem State.failover_store (s : State) : (s.failover).store = s.store := by unfold State.failover; (repeat' split) <;> simp
@[simp] theorem State.failover_me (s : State) : (s.failover).me = s.me := by unfold State.failover; (repeat' split) <;> simp
@[simp] theorem State.failover_freeIndex (s : State) : (s.failover).freeIndex = s.freeIndex := by unfold State.failover; (repeat' split) <;> simp
@[simp] theorem State.failover_resetPhases (s : State) : (s.failover).resetPhases = s.resetPhases := by unfold State.failover; (repeat' split) <;> simp
@[simp] theorem State.failover_pending (s : State) : (s.failover).pending = s.pending := by unfold State.failover; (repeat' split) <;> simp

/-! `touchPosted` -/

@[simp] theorem State.becomeFresh_posted_llr (s : State) : (s.becomeFresh .posted).llr = s.llr := rfl

@[simp] theorem State.touchPosted_time (s : State) : (s.touchPosted).time = s.time := by unfold State.touchPosted; dsimp only; (repeat' split) <;> simp
@[simp] theorem State.touchPosted_cp (s : State) : (s.touchPosted).cp = s.cp := by unfold State.touchPosted; dsimp only; (repeat' split) <;> simp
@[simp] theorem State.touchPosted_config (s : State) : (s.touchPosted).config = s.config := by unfold State.touchPosted; dsimp only; (repeat' split) <;> simp
@[simp] theorem State.touchPosted_llr (s : State) : (s.touchPosted).llr = s.llr := by unfold State.touchPosted; dsimp only; (repeat' split) <;> simp
@[simp] theorem State.touchPosted_tsu (s : State) : (s.touchPosted).tsu = s.tsu := by unfold State.touchPosted; dsimp only; (repeat' split) <;> simp
@[simp] theorem State.touchPosted_store (s : State) : (s.touchPosted).store = s.store := by unfold State.touchPosted; dsimp only; (repeat' split) <;> simp
@[simp] theorem State.touchPosted_me (s : State) : (s.touchPosted).me = s.me := by unfold State.touchPosted; dsimp only; (repeat' split) <;> simp
@[simp] theorem State.touchPosted_freeIndex (s : State) : (s.touchPosted).freeIndex = s.freeIndex := by unfold State.touchPosted; dsimp only; (repeat' split) <;> simp
@[simp] theorem State.touchPosted_resetPhases (s : State) : (s.touchPosted).resetPhases = s.resetPhases := by unfold State.touchPosted; dsimp only; (repeat' split) <;> simp
@[simp] theorem State.touchPosted_pending (s : State) : (s.touchPosted).pending = s.pending := by unfold State.touchPosted; dsimp only; (repeat' split) <;> simp

/-! `enterSample` -/

@[simp] theorem State.enterSample_time (s : State) (x : Sample) : ((s.enterSample x).1).time = s.time := by unfold State.enterSample; split <;> rfl
@[simp] theorem State.enterSample_cp (s : State) (x : Sample) : ((s.enterSample x).1).cp = s.cp := by unfold State.enterSample; split <;> rfl
@[simp] theorem State.enterSample_config (s : State) (x : Sample) : ((s.enterSample x).1).config = s.config := by unfold State.enterSample; split <;> rfl
@[simp] theorem State.enterSample_eu (s : State) (x : Sample) : ((s.enterSample x).1).eu = s.eu := by unfold State.enterSample; split <;> rfl
@[simp] theorem State.enterSample_llr (s : State) (x : Sample) : ((s.enterSample x).1).llr = s.llr := by unfold State.enterSample; split <;> rfl
@[simp] theorem State.enterSample_tsu (s : State) (x : Sample) : ((s.enterSample x).1).tsu = s.tsu := by unfold State.enterSample; split <;> rfl
@[simp] theorem State.enterSample_ports (s : State) (x : Sample) : ((s.enterSample x).1).ports = s.ports := by unfold State.enterSample; split <;> rfl
@[simp] theorem State.enterSample_store (s : State) (x : Sample) : ((s.enterSample x).1).store = s.store := by unfold State.enterSample; split <;> rfl
@[simp] theorem State.enterSample_me (s : State) (x : Sample) : ((s.enterSample x).1).me = s.me := by unfold State.enterSample; split <;> rfl
@[simp] theorem State.enterSample_freeIndex (s : State) (x : Sample) : ((s.enterSample x).1).freeIndex = s.freeIndex := by unfold State.enterSample; split <;> rfl
@[simp] theorem State.enterSample_resetPhases (s : State) (x : Sample) : ((s.enterSample x).1).resetPhases = s.resetPhases := by unfold State.enterSample; split <;> rfl
@[simp] theorem State.enterSample_pending (s : State) (x : Sample) : ((s.enterSample x).1).pending = s.pending := by unfold State.enterSample; split <;> rfl

/-! `attach` -/

@[simp] theorem State.attach_time (s : State) (a : Attach) (t : Word) (f : Feed) : ((s.attach a t f).1).time = s.time := by simp [State.attach]
@[simp] theorem State.attach_cp (s : State) (a : Attach) (t : Word) (f : Feed) : ((s.attach a t f).1).cp = s.cp := by simp [State.attach]
@[simp] theorem State.attach_config (s : State) (a : Attach) (t : Word) (f : Feed) : ((s.attach a t f).1).config = s.config := by simp [State.attach]
@[simp] theorem State.attach_llr (s : State) (a : Attach) (t : Word) (f : Feed) : ((s.attach a t f).1).llr = s.llr := by simp [State.attach]
@[simp] theorem State.attach_tsu (s : State) (a : Attach) (t : Word) (f : Feed) : ((s.attach a t f).1).tsu = s.tsu := by simp [State.attach]
@[simp] theorem State.attach_store (s : State) (a : Attach) (t : Word) (f : Feed) : ((s.attach a t f).1).store = s.store := by simp [State.attach]
@[simp] theorem State.attach_me (s : State) (a : Attach) (t : Word) (f : Feed) : ((s.attach a t f).1).me = s.me := by simp [State.attach]
@[simp] theorem State.attach_freeIndex (s : State) (a : Attach) (t : Word) (f : Feed) : ((s.attach a t f).1).freeIndex = s.freeIndex := by simp [State.attach]
@[simp] theorem State.attach_resetPhases (s : State) (a : Attach) (t : Word) (f : Feed) : ((s.attach a t f).1).resetPhases = s.resetPhases := by simp [State.attach]
@[simp] theorem State.attach_pending (s : State) (a : Attach) (t : Word) (f : Feed) : ((s.attach a t f).1).pending = s.pending := by simp [State.attach]

/-! `changeConverter` -/

@[simp] theorem State.changeConverter_time (s : State) (c : BitVec 2) : (s.changeConverter c).time = s.time := by simp [State.changeConverter]
@[simp] theorem State.changeConverter_cp (s : State) (c : BitVec 2) : (s.changeConverter c).cp = s.cp := by simp [State.changeConverter]
@[simp] theorem State.changeConverter_config (s : State) (c : BitVec 2) : (s.changeConverter c).config = s.config := by simp [State.changeConverter]
@[simp] theorem State.changeConverter_llr (s : State) (c : BitVec 2) : (s.changeConverter c).llr = s.llr := by simp [State.changeConverter]
@[simp] theorem State.changeConverter_tsu (s : State) (c : BitVec 2) : (s.changeConverter c).tsu = s.tsu := by simp [State.changeConverter]
@[simp] theorem State.changeConverter_ports (s : State) (c : BitVec 2) : (s.changeConverter c).ports = s.ports := by simp [State.changeConverter]
@[simp] theorem State.changeConverter_store (s : State) (c : BitVec 2) : (s.changeConverter c).store = s.store := by simp [State.changeConverter]
@[simp] theorem State.changeConverter_me (s : State) (c : BitVec 2) : (s.changeConverter c).me = s.me := by simp [State.changeConverter]
@[simp] theorem State.changeConverter_freeIndex (s : State) (c : BitVec 2) : (s.changeConverter c).freeIndex = s.freeIndex := by simp [State.changeConverter]
@[simp] theorem State.changeConverter_resetPhases (s : State) (c : BitVec 2) : (s.changeConverter c).resetPhases = s.resetPhases := by simp [State.changeConverter]
@[simp] theorem State.changeConverter_pending (s : State) (c : BitVec 2) : (s.changeConverter c).pending = s.pending := by simp [State.changeConverter]

/-! `heartbeat` -/

@[simp] theorem State.heartbeat_time (s : State) (t : Word) : (s.heartbeat t).time = s.time := by unfold State.heartbeat; (repeat' split) <;> simp
@[simp] theorem State.heartbeat_cp (s : State) (t : Word) : (s.heartbeat t).cp = s.cp := by unfold State.heartbeat; (repeat' split) <;> simp
@[simp] theorem State.heartbeat_config (s : State) (t : Word) : (s.heartbeat t).config = s.config := by unfold State.heartbeat; (repeat' split) <;> simp
@[simp] theorem State.heartbeat_eu (s : State) (t : Word) : (s.heartbeat t).eu = s.eu := by unfold State.heartbeat; (repeat' split) <;> simp
@[simp] theorem State.heartbeat_llr (s : State) (t : Word) : (s.heartbeat t).llr = s.llr := by unfold State.heartbeat; (repeat' split) <;> simp
@[simp] theorem State.heartbeat_tsu (s : State) (t : Word) : (s.heartbeat t).tsu = s.tsu := by unfold State.heartbeat; (repeat' split) <;> simp
@[simp] theorem State.heartbeat_ports (s : State) (t : Word) : (s.heartbeat t).ports = s.ports := by unfold State.heartbeat; (repeat' split) <;> simp
@[simp] theorem State.heartbeat_store (s : State) (t : Word) : (s.heartbeat t).store = s.store := by unfold State.heartbeat; (repeat' split) <;> simp
@[simp] theorem State.heartbeat_me (s : State) (t : Word) : (s.heartbeat t).me = s.me := by unfold State.heartbeat; (repeat' split) <;> simp
@[simp] theorem State.heartbeat_freeIndex (s : State) (t : Word) : (s.heartbeat t).freeIndex = s.freeIndex := by unfold State.heartbeat; (repeat' split) <;> simp
@[simp] theorem State.heartbeat_resetPhases (s : State) (t : Word) : (s.heartbeat t).resetPhases = s.resetPhases := by unfold State.heartbeat; (repeat' split) <;> simp
@[simp] theorem State.heartbeat_pending (s : State) (t : Word) : (s.heartbeat t).pending = s.pending := by unfold State.heartbeat; (repeat' split) <;> simp

/-! `converterReport` -/

@[simp] theorem State.converterReport_time (s : State) (c : BitVec 2) (t : Word) : (s.converterReport c t).time = s.time := by unfold State.converterReport; (repeat' split) <;> simp
@[simp] theorem State.converterReport_cp (s : State) (c : BitVec 2) (t : Word) : (s.converterReport c t).cp = s.cp := by unfold State.converterReport; (repeat' split) <;> simp
@[simp] theorem State.converterReport_config (s : State) (c : BitVec 2) (t : Word) : (s.converterReport c t).config = s.config := by unfold State.converterReport; (repeat' split) <;> simp
@[simp] theorem State.converterReport_llr (s : State) (c : BitVec 2) (t : Word) : (s.converterReport c t).llr = s.llr := by unfold State.converterReport; (repeat' split) <;> simp
@[simp] theorem State.converterReport_tsu (s : State) (c : BitVec 2) (t : Word) : (s.converterReport c t).tsu = s.tsu := by unfold State.converterReport; (repeat' split) <;> simp
@[simp] theorem State.converterReport_ports (s : State) (c : BitVec 2) (t : Word) : (s.converterReport c t).ports = s.ports := by unfold State.converterReport; (repeat' split) <;> simp
@[simp] theorem State.converterReport_store (s : State) (c : BitVec 2) (t : Word) : (s.converterReport c t).store = s.store := by unfold State.converterReport; (repeat' split) <;> simp
@[simp] theorem State.converterReport_me (s : State) (c : BitVec 2) (t : Word) : (s.converterReport c t).me = s.me := by unfold State.converterReport; (repeat' split) <;> simp
@[simp] theorem State.converterReport_freeIndex (s : State) (c : BitVec 2) (t : Word) : (s.converterReport c t).freeIndex = s.freeIndex := by unfold State.converterReport; (repeat' split) <;> simp
@[simp] theorem State.converterReport_resetPhases (s : State) (c : BitVec 2) (t : Word) : (s.converterReport c t).resetPhases = s.resetPhases := by unfold State.converterReport; (repeat' split) <;> simp
@[simp] theorem State.converterReport_pending (s : State) (c : BitVec 2) (t : Word) : (s.converterReport c t).pending = s.pending := by unfold State.converterReport; (repeat' split) <;> simp

/-! `autoReturn` -/

@[simp] theorem State.autoReturn_time (s : State) (r : Report) (n : Nat) : (s.autoReturn r n).time = s.time := by unfold State.autoReturn; (repeat' split) <;> simp
@[simp] theorem State.autoReturn_cp (s : State) (r : Report) (n : Nat) : (s.autoReturn r n).cp = s.cp := by unfold State.autoReturn; (repeat' split) <;> simp
@[simp] theorem State.autoReturn_config (s : State) (r : Report) (n : Nat) : (s.autoReturn r n).config = s.config := by unfold State.autoReturn; (repeat' split) <;> simp
@[simp] theorem State.autoReturn_llr (s : State) (r : Report) (n : Nat) : (s.autoReturn r n).llr = s.llr := by unfold State.autoReturn; (repeat' split) <;> simp
@[simp] theorem State.autoReturn_tsu (s : State) (r : Report) (n : Nat) : (s.autoReturn r n).tsu = s.tsu := by unfold State.autoReturn; (repeat' split) <;> simp
@[simp] theorem State.autoReturn_store (s : State) (r : Report) (n : Nat) : (s.autoReturn r n).store = s.store := by unfold State.autoReturn; (repeat' split) <;> simp
@[simp] theorem State.autoReturn_me (s : State) (r : Report) (n : Nat) : (s.autoReturn r n).me = s.me := by unfold State.autoReturn; (repeat' split) <;> simp
@[simp] theorem State.autoReturn_freeIndex (s : State) (r : Report) (n : Nat) : (s.autoReturn r n).freeIndex = s.freeIndex := by unfold State.autoReturn; (repeat' split) <;> simp
@[simp] theorem State.autoReturn_resetPhases (s : State) (r : Report) (n : Nat) : (s.autoReturn r n).resetPhases = s.resetPhases := by unfold State.autoReturn; (repeat' split) <;> simp
@[simp] theorem State.autoReturn_pending (s : State) (r : Report) (n : Nat) : (s.autoReturn r n).pending = s.pending := by unfold State.autoReturn; (repeat' split) <;> simp

/-! `applyCurrent` -/

@[simp] theorem State.applyCurrent_time (s : State) (r : Report) : (s.applyCurrent r).time = s.time := by unfold State.applyCurrent; (repeat' split) <;> simp
@[simp] theorem State.applyCurrent_cp (s : State) (r : Report) : (s.applyCurrent r).cp = s.cp := by unfold State.applyCurrent; (repeat' split) <;> simp
@[simp] theorem State.applyCurrent_config (s : State) (r : Report) : (s.applyCurrent r).config = s.config := by unfold State.applyCurrent; (repeat' split) <;> simp
@[simp] theorem State.applyCurrent_llr (s : State) (r : Report) : (s.applyCurrent r).llr = s.llr := by unfold State.applyCurrent; (repeat' split) <;> simp
@[simp] theorem State.applyCurrent_tsu (s : State) (r : Report) : (s.applyCurrent r).tsu = s.tsu := by unfold State.applyCurrent; (repeat' split) <;> simp
@[simp] theorem State.applyCurrent_ports (s : State) (r : Report) : (s.applyCurrent r).ports = s.ports := by unfold State.applyCurrent; (repeat' split) <;> simp
@[simp] theorem State.applyCurrent_store (s : State) (r : Report) : (s.applyCurrent r).store = s.store := by unfold State.applyCurrent; (repeat' split) <;> simp
@[simp] theorem State.applyCurrent_me (s : State) (r : Report) : (s.applyCurrent r).me = s.me := by unfold State.applyCurrent; (repeat' split) <;> simp
@[simp] theorem State.applyCurrent_freeIndex (s : State) (r : Report) : (s.applyCurrent r).freeIndex = s.freeIndex := by unfold State.applyCurrent; (repeat' split) <;> simp
@[simp] theorem State.applyCurrent_resetPhases (s : State) (r : Report) : (s.applyCurrent r).resetPhases = s.resetPhases := by unfold State.applyCurrent; (repeat' split) <;> simp
@[simp] theorem State.applyCurrent_pending (s : State) (r : Report) : (s.applyCurrent r).pending = s.pending := by unfold State.applyCurrent; (repeat' split) <;> simp

/-! `linkReport` -/

@[simp] theorem State.linkReport_time (s : State) (r : Report) (n : Nat) : (s.linkReport r n).time = s.time := by unfold State.linkReport; dsimp only; (repeat' split) <;> simp
@[simp] theorem State.linkReport_cp (s : State) (r : Report) (n : Nat) : (s.linkReport r n).cp = s.cp := by unfold State.linkReport; dsimp only; (repeat' split) <;> simp
@[simp] theorem State.linkReport_config (s : State) (r : Report) (n : Nat) : (s.linkReport r n).config = s.config := by unfold State.linkReport; dsimp only; (repeat' split) <;> simp
@[simp] theorem State.linkReport_llr (s : State) (r : Report) (n : Nat) : (s.linkReport r n).llr = s.llr := by unfold State.linkReport; dsimp only; (repeat' split) <;> simp
@[simp] theorem State.linkReport_tsu (s : State) (r : Report) (n : Nat) : (s.linkReport r n).tsu = s.tsu := by unfold State.linkReport; dsimp only; (repeat' split) <;> simp
@[simp] theorem State.linkReport_store (s : State) (r : Report) (n : Nat) : (s.linkReport r n).store = s.store := by unfold State.linkReport; dsimp only; (repeat' split) <;> simp
@[simp] theorem State.linkReport_me (s : State) (r : Report) (n : Nat) : (s.linkReport r n).me = s.me := by unfold State.linkReport; dsimp only; (repeat' split) <;> simp
@[simp] theorem State.linkReport_freeIndex (s : State) (r : Report) (n : Nat) : (s.linkReport r n).freeIndex = s.freeIndex := by unfold State.linkReport; dsimp only; (repeat' split) <;> simp
@[simp] theorem State.linkReport_resetPhases (s : State) (r : Report) (n : Nat) : (s.linkReport r n).resetPhases = s.resetPhases := by unfold State.linkReport; dsimp only; (repeat' split) <;> simp
@[simp] theorem State.linkReport_pending (s : State) (r : Report) (n : Nat) : (s.linkReport r n).pending = s.pending := by unfold State.linkReport; dsimp only; (repeat' split) <;> simp

/-! `checkError` -/

@[simp] theorem State.checkError_time (s : State) : (s.checkError).time = s.time := by unfold State.checkError; dsimp only; (repeat' split) <;> simp
@[simp] theorem State.checkError_cp (s : State) : (s.checkError).cp = s.cp := by unfold State.checkError; dsimp only; (repeat' split) <;> simp
@[simp] theorem State.checkError_config (s : State) : (s.checkError).config = s.config := by unfold State.checkError; dsimp only; (repeat' split) <;> simp
@[simp] theorem State.checkError_lst (s : State) : (s.checkError).lst = s.lst := by unfold State.checkError; dsimp only; (repeat' split) <;> simp
@[simp] theorem State.checkError_tsu (s : State) : (s.checkError).tsu = s.tsu := by unfold State.checkError; dsimp only; (repeat' split) <;> simp
@[simp] theorem State.checkError_ports (s : State) : (s.checkError).ports = s.ports := by unfold State.checkError; dsimp only; (repeat' split) <;> simp
@[simp] theorem State.checkError_store (s : State) : (s.checkError).store = s.store := by unfold State.checkError; dsimp only; (repeat' split) <;> simp
@[simp] theorem State.checkError_me (s : State) : (s.checkError).me = s.me := by unfold State.checkError; dsimp only; (repeat' split) <;> simp
@[simp] theorem State.checkError_freeIndex (s : State) : (s.checkError).freeIndex = s.freeIndex := by unfold State.checkError; dsimp only; (repeat' split) <;> simp
@[simp] theorem State.checkError_resetPhases (s : State) : (s.checkError).resetPhases = s.resetPhases := by unfold State.checkError; dsimp only; (repeat' split) <;> simp
@[simp] theorem State.checkError_pending (s : State) : (s.checkError).pending = s.pending := by unfold State.checkError; dsimp only; (repeat' split) <;> simp

/-! `takeSequence` -/

@[simp] theorem State.takeSequence_time (s : State) (q : BitVec 4) : (s.takeSequence q).time = s.time := by unfold State.takeSequence; dsimp only; (repeat' split) <;> simp
@[simp] theorem State.takeSequence_cp (s : State) (q : BitVec 4) : (s.takeSequence q).cp = s.cp := by unfold State.takeSequence; dsimp only; (repeat' split) <;> simp
@[simp] theorem State.takeSequence_config (s : State) (q : BitVec 4) : (s.takeSequence q).config = s.config := by unfold State.takeSequence; dsimp only; (repeat' split) <;> simp
@[simp] theorem State.takeSequence_lst (s : State) (q : BitVec 4) : (s.takeSequence q).lst = s.lst := by unfold State.takeSequence; dsimp only; (repeat' split) <;> simp
@[simp] theorem State.takeSequence_tsu (s : State) (q : BitVec 4) : (s.takeSequence q).tsu = s.tsu := by unfold State.takeSequence; dsimp only; (repeat' split) <;> simp
@[simp] theorem State.takeSequence_ports (s : State) (q : BitVec 4) : (s.takeSequence q).ports = s.ports := by unfold State.takeSequence; dsimp only; (repeat' split) <;> simp
@[simp] theorem State.takeSequence_store (s : State) (q : BitVec 4) : (s.takeSequence q).store = s.store := by unfold State.takeSequence; dsimp only; (repeat' split) <;> simp
@[simp] theorem State.takeSequence_me (s : State) (q : BitVec 4) : (s.takeSequence q).me = s.me := by unfold State.takeSequence; dsimp only; (repeat' split) <;> simp
@[simp] theorem State.takeSequence_freeIndex (s : State) (q : BitVec 4) : (s.takeSequence q).freeIndex = s.freeIndex := by unfold State.takeSequence; dsimp only; (repeat' split) <;> simp
@[simp] theorem State.takeSequence_resetPhases (s : State) (q : BitVec 4) : (s.takeSequence q).resetPhases = s.resetPhases := by unfold State.takeSequence; dsimp only; (repeat' split) <;> simp
@[simp] theorem State.takeSequence_pending (s : State) (q : BitVec 4) : (s.takeSequence q).pending = s.pending := by unfold State.takeSequence; dsimp only; (repeat' split) <;> simp

/-! `validFrame` -/

@[simp] theorem State.validFrame_time (s : State) (r : Report) (n : Nat) : (s.validFrame r n).time = s.time := by unfold State.validFrame; dsimp only; (repeat' split) <;> simp
@[simp] theorem State.validFrame_cp (s : State) (r : Report) (n : Nat) : (s.validFrame r n).cp = s.cp := by unfold State.validFrame; dsimp only; (repeat' split) <;> simp
@[simp] theorem State.validFrame_config (s : State) (r : Report) (n : Nat) : (s.validFrame r n).config = s.config := by unfold State.validFrame; dsimp only; (repeat' split) <;> simp
@[simp] theorem State.validFrame_tsu (s : State) (r : Report) (n : Nat) : (s.validFrame r n).tsu = s.tsu := by unfold State.validFrame; dsimp only; (repeat' split) <;> simp
@[simp] theorem State.validFrame_store (s : State) (r : Report) (n : Nat) : (s.validFrame r n).store = s.store := by unfold State.validFrame; dsimp only; (repeat' split) <;> simp
@[simp] theorem State.validFrame_me (s : State) (r : Report) (n : Nat) : (s.validFrame r n).me = s.me := by unfold State.validFrame; dsimp only; (repeat' split) <;> simp
@[simp] theorem State.validFrame_freeIndex (s : State) (r : Report) (n : Nat) : (s.validFrame r n).freeIndex = s.freeIndex := by unfold State.validFrame; dsimp only; (repeat' split) <;> simp
@[simp] theorem State.validFrame_resetPhases (s : State) (r : Report) (n : Nat) : (s.validFrame r n).resetPhases = s.resetPhases := by unfold State.validFrame; dsimp only; (repeat' split) <;> simp
@[simp] theorem State.validFrame_pending (s : State) (r : Report) (n : Nat) : (s.validFrame r n).pending = s.pending := by unfold State.validFrame; dsimp only; (repeat' split) <;> simp

/-! `intactFrame` -/

@[simp] theorem State.intactFrame_time (s : State) (bs : List Byte) : (s.intactFrame bs).time = s.time := by unfold State.intactFrame; dsimp only; (repeat' split) <;> simp
@[simp] theorem State.intactFrame_cp (s : State) (bs : List Byte) : (s.intactFrame bs).cp = s.cp := by unfold State.intactFrame; dsimp only; (repeat' split) <;> simp
@[simp] theorem State.intactFrame_config (s : State) (bs : List Byte) : (s.intactFrame bs).config = s.config := by unfold State.intactFrame; dsimp only; (repeat' split) <;> simp
@[simp] theorem State.intactFrame_tsu (s : State) (bs : List Byte) : (s.intactFrame bs).tsu = s.tsu := by unfold State.intactFrame; dsimp only; (repeat' split) <;> simp
@[simp] theorem State.intactFrame_store (s : State) (bs : List Byte) : (s.intactFrame bs).store = s.store := by unfold State.intactFrame; dsimp only; (repeat' split) <;> simp
@[simp] theorem State.intactFrame_me (s : State) (bs : List Byte) : (s.intactFrame bs).me = s.me := by unfold State.intactFrame; dsimp only; (repeat' split) <;> simp
@[simp] theorem State.intactFrame_freeIndex (s : State) (bs : List Byte) : (s.intactFrame bs).freeIndex = s.freeIndex := by unfold State.intactFrame; dsimp only; (repeat' split) <;> simp
@[simp] theorem State.intactFrame_resetPhases (s : State) (bs : List Byte) : (s.intactFrame bs).resetPhases = s.resetPhases := by unfold State.intactFrame; dsimp only; (repeat' split) <;> simp
@[simp] theorem State.intactFrame_pending (s : State) (bs : List Byte) : (s.intactFrame bs).pending = s.pending := by unfold State.intactFrame; dsimp only; (repeat' split) <;> simp

/-! `byteInFrame` -/

@[simp] theorem State.byteInFrame_time (s : State) (b : Byte) : (s.byteInFrame b).time = s.time := by unfold State.byteInFrame; dsimp only; (repeat' split) <;> simp
@[simp] theorem State.byteInFrame_cp (s : State) (b : Byte) : (s.byteInFrame b).cp = s.cp := by unfold State.byteInFrame; dsimp only; (repeat' split) <;> simp
@[simp] theorem State.byteInFrame_config (s : State) (b : Byte) : (s.byteInFrame b).config = s.config := by unfold State.byteInFrame; dsimp only; (repeat' split) <;> simp
@[simp] theorem State.byteInFrame_tsu (s : State) (b : Byte) : (s.byteInFrame b).tsu = s.tsu := by unfold State.byteInFrame; dsimp only; (repeat' split) <;> simp
@[simp] theorem State.byteInFrame_store (s : State) (b : Byte) : (s.byteInFrame b).store = s.store := by unfold State.byteInFrame; dsimp only; (repeat' split) <;> simp
@[simp] theorem State.byteInFrame_me (s : State) (b : Byte) : (s.byteInFrame b).me = s.me := by unfold State.byteInFrame; dsimp only; (repeat' split) <;> simp
@[simp] theorem State.byteInFrame_freeIndex (s : State) (b : Byte) : (s.byteInFrame b).freeIndex = s.freeIndex := by unfold State.byteInFrame; dsimp only; (repeat' split) <;> simp
@[simp] theorem State.byteInFrame_resetPhases (s : State) (b : Byte) : (s.byteInFrame b).resetPhases = s.resetPhases := by unfold State.byteInFrame; dsimp only; (repeat' split) <;> simp
@[simp] theorem State.byteInFrame_pending (s : State) (b : Byte) : (s.byteInFrame b).pending = s.pending := by unfold State.byteInFrame; dsimp only; (repeat' split) <;> simp

/-! `receiveByte` -/

@[simp] theorem State.receiveByte_time (s : State) (b : Byte) : (s.receiveByte b).time = s.time := by unfold State.receiveByte; (repeat' split) <;> simp
@[simp] theorem State.receiveByte_cp (s : State) (b : Byte) : (s.receiveByte b).cp = s.cp := by unfold State.receiveByte; (repeat' split) <;> simp
@[simp] theorem State.receiveByte_config (s : State) (b : Byte) : (s.receiveByte b).config = s.config := by unfold State.receiveByte; (repeat' split) <;> simp
@[simp] theorem State.receiveByte_tsu (s : State) (b : Byte) : (s.receiveByte b).tsu = s.tsu := by unfold State.receiveByte; (repeat' split) <;> simp
@[simp] theorem State.receiveByte_store (s : State) (b : Byte) : (s.receiveByte b).store = s.store := by unfold State.receiveByte; (repeat' split) <;> simp
@[simp] theorem State.receiveByte_me (s : State) (b : Byte) : (s.receiveByte b).me = s.me := by unfold State.receiveByte; (repeat' split) <;> simp
@[simp] theorem State.receiveByte_freeIndex (s : State) (b : Byte) : (s.receiveByte b).freeIndex = s.freeIndex := by unfold State.receiveByte; (repeat' split) <;> simp
@[simp] theorem State.receiveByte_resetPhases (s : State) (b : Byte) : (s.receiveByte b).resetPhases = s.resetPhases := by unfold State.receiveByte; (repeat' split) <;> simp
@[simp] theorem State.receiveByte_pending (s : State) (b : Byte) : (s.receiveByte b).pending = s.pending := by unfold State.receiveByte; (repeat' split) <;> simp

/-! `receiveRunt` -/

@[simp] theorem State.receiveRunt_time (s : State) : (s.receiveRunt).time = s.time := by unfold State.receiveRunt; (repeat' split) <;> simp
@[simp] theorem State.receiveRunt_cp (s : State) : (s.receiveRunt).cp = s.cp := by unfold State.receiveRunt; (repeat' split) <;> simp
@[simp] theorem State.receiveRunt_config (s : State) : (s.receiveRunt).config = s.config := by unfold State.receiveRunt; (repeat' split) <;> simp
@[simp] theorem State.receiveRunt_lst (s : State) : (s.receiveRunt).lst = s.lst := by unfold State.receiveRunt; (repeat' split) <;> simp
@[simp] theorem State.receiveRunt_tsu (s : State) : (s.receiveRunt).tsu = s.tsu := by unfold State.receiveRunt; (repeat' split) <;> simp
@[simp] theorem State.receiveRunt_ports (s : State) : (s.receiveRunt).ports = s.ports := by unfold State.receiveRunt; (repeat' split) <;> simp
@[simp] theorem State.receiveRunt_store (s : State) : (s.receiveRunt).store = s.store := by unfold State.receiveRunt; (repeat' split) <;> simp
@[simp] theorem State.receiveRunt_me (s : State) : (s.receiveRunt).me = s.me := by unfold State.receiveRunt; (repeat' split) <;> simp
@[simp] theorem State.receiveRunt_freeIndex (s : State) : (s.receiveRunt).freeIndex = s.freeIndex := by unfold State.receiveRunt; (repeat' split) <;> simp
@[simp] theorem State.receiveRunt_resetPhases (s : State) : (s.receiveRunt).resetPhases = s.resetPhases := by unfold State.receiveRunt; (repeat' split) <;> simp
@[simp] theorem State.receiveRunt_pending (s : State) : (s.receiveRunt).pending = s.pending := by unfold State.receiveRunt; (repeat' split) <;> simp

/-! `postLock` -/

@[simp] theorem State.postLock_time (s : State) (p : Port) (r : LockReport) : (s.postLock p r).time = s.time := by unfold State.postLock; (repeat' split) <;> simp
@[simp] theorem State.postLock_cp (s : State) (p : Port) (r : LockReport) : (s.postLock p r).cp = s.cp := by unfold State.postLock; (repeat' split) <;> simp
@[simp] theorem State.postLock_config (s : State) (p : Port) (r : LockReport) : (s.postLock p r).config = s.config := by unfold State.postLock; (repeat' split) <;> simp
@[simp] theorem State.postLock_llr (s : State) (p : Port) (r : LockReport) : (s.postLock p r).llr = s.llr := by unfold State.postLock; (repeat' split) <;> simp
@[simp] theorem State.postLock_lst (s : State) (p : Port) (r : LockReport) : (s.postLock p r).lst = s.lst := by unfold State.postLock; (repeat' split) <;> simp
@[simp] theorem State.postLock_tsu (s : State) (p : Port) (r : LockReport) : (s.postLock p r).tsu = s.tsu := by unfold State.postLock; (repeat' split) <;> simp
@[simp] theorem State.postLock_ports (s : State) (p : Port) (r : LockReport) : (s.postLock p r).ports = s.ports := by unfold State.postLock; (repeat' split) <;> simp
@[simp] theorem State.postLock_store (s : State) (p : Port) (r : LockReport) : (s.postLock p r).store = s.store := by unfold State.postLock; (repeat' split) <;> simp
@[simp] theorem State.postLock_me (s : State) (p : Port) (r : LockReport) : (s.postLock p r).me = s.me := by unfold State.postLock; (repeat' split) <;> simp
@[simp] theorem State.postLock_freeIndex (s : State) (p : Port) (r : LockReport) : (s.postLock p r).freeIndex = s.freeIndex := by unfold State.postLock; (repeat' split) <;> simp
@[simp] theorem State.postLock_resetPhases (s : State) (p : Port) (r : LockReport) : (s.postLock p r).resetPhases = s.resetPhases := by unfold State.postLock; (repeat' split) <;> simp
@[simp] theorem State.postLock_pending (s : State) (p : Port) (r : LockReport) : (s.postLock p r).pending = s.pending := by unfold State.postLock; (repeat' split) <;> simp

/-! `strobeRequest` -/

@[simp] theorem State.strobeRequest_time (s : State) (p : Port) (r : StrobeRecord) : (s.strobeRequest p r).time = s.time := by unfold State.strobeRequest; dsimp only; (repeat' split) <;> simp
@[simp] theorem State.strobeRequest_cp (s : State) (p : Port) (r : StrobeRecord) : (s.strobeRequest p r).cp = s.cp := by unfold State.strobeRequest; dsimp only; (repeat' split) <;> simp
@[simp] theorem State.strobeRequest_config (s : State) (p : Port) (r : StrobeRecord) : (s.strobeRequest p r).config = s.config := by unfold State.strobeRequest; dsimp only; (repeat' split) <;> simp
@[simp] theorem State.strobeRequest_llr (s : State) (p : Port) (r : StrobeRecord) : (s.strobeRequest p r).llr = s.llr := by unfold State.strobeRequest; dsimp only; (repeat' split) <;> simp
@[simp] theorem State.strobeRequest_lst (s : State) (p : Port) (r : StrobeRecord) : (s.strobeRequest p r).lst = s.lst := by unfold State.strobeRequest; dsimp only; (repeat' split) <;> simp
@[simp] theorem State.strobeRequest_tsu (s : State) (p : Port) (r : StrobeRecord) : (s.strobeRequest p r).tsu = s.tsu := by unfold State.strobeRequest; dsimp only; (repeat' split) <;> simp
@[simp] theorem State.strobeRequest_store (s : State) (p : Port) (r : StrobeRecord) : (s.strobeRequest p r).store = s.store := by unfold State.strobeRequest; dsimp only; (repeat' split) <;> simp
@[simp] theorem State.strobeRequest_me (s : State) (p : Port) (r : StrobeRecord) : (s.strobeRequest p r).me = s.me := by unfold State.strobeRequest; dsimp only; (repeat' split) <;> simp
@[simp] theorem State.strobeRequest_freeIndex (s : State) (p : Port) (r : StrobeRecord) : (s.strobeRequest p r).freeIndex = s.freeIndex := by unfold State.strobeRequest; dsimp only; (repeat' split) <;> simp
@[simp] theorem State.strobeRequest_resetPhases (s : State) (p : Port) (r : StrobeRecord) : (s.strobeRequest p r).resetPhases = s.resetPhases := by unfold State.strobeRequest; dsimp only; (repeat' split) <;> simp
@[simp] theorem State.strobeRequest_pending (s : State) (p : Port) (r : StrobeRecord) : (s.strobeRequest p r).pending = s.pending := by unfold State.strobeRequest; dsimp only; (repeat' split) <;> simp

/-! `portStrobe` -/

@[simp] theorem State.portStrobe_time (s : State) (p : Port) (r : StrobeRecord) : (s.portStrobe p r).time = s.time := by unfold State.portStrobe; dsimp only; (repeat' split) <;> simp
@[simp] theorem State.portStrobe_cp (s : State) (p : Port) (r : StrobeRecord) : (s.portStrobe p r).cp = s.cp := by unfold State.portStrobe; dsimp only; (repeat' split) <;> simp
@[simp] theorem State.portStrobe_config (s : State) (p : Port) (r : StrobeRecord) : (s.portStrobe p r).config = s.config := by unfold State.portStrobe; dsimp only; (repeat' split) <;> simp
@[simp] theorem State.portStrobe_llr (s : State) (p : Port) (r : StrobeRecord) : (s.portStrobe p r).llr = s.llr := by unfold State.portStrobe; dsimp only; (repeat' split) <;> simp
@[simp] theorem State.portStrobe_lst (s : State) (p : Port) (r : StrobeRecord) : (s.portStrobe p r).lst = s.lst := by unfold State.portStrobe; dsimp only; (repeat' split) <;> simp
@[simp] theorem State.portStrobe_tsu (s : State) (p : Port) (r : StrobeRecord) : (s.portStrobe p r).tsu = s.tsu := by unfold State.portStrobe; dsimp only; (repeat' split) <;> simp
@[simp] theorem State.portStrobe_store (s : State) (p : Port) (r : StrobeRecord) : (s.portStrobe p r).store = s.store := by unfold State.portStrobe; dsimp only; (repeat' split) <;> simp
@[simp] theorem State.portStrobe_me (s : State) (p : Port) (r : StrobeRecord) : (s.portStrobe p r).me = s.me := by unfold State.portStrobe; dsimp only; (repeat' split) <;> simp
@[simp] theorem State.portStrobe_freeIndex (s : State) (p : Port) (r : StrobeRecord) : (s.portStrobe p r).freeIndex = s.freeIndex := by unfold State.portStrobe; dsimp only; (repeat' split) <;> simp
@[simp] theorem State.portStrobe_resetPhases (s : State) (p : Port) (r : StrobeRecord) : (s.portStrobe p r).resetPhases = s.resetPhases := by unfold State.portStrobe; dsimp only; (repeat' split) <;> simp
@[simp] theorem State.portStrobe_pending (s : State) (p : Port) (r : StrobeRecord) : (s.portStrobe p r).pending = s.pending := by unfold State.portStrobe; dsimp only; (repeat' split) <;> simp

/-! `judgeRecord` -/

@[simp] theorem State.judgeRecord_time (s : State) (p : Port) (f : RequestFields) : (s.judgeRecord p f).time = s.time := by unfold State.judgeRecord; (repeat' split) <;> simp
@[simp] theorem State.judgeRecord_cp (s : State) (p : Port) (f : RequestFields) : (s.judgeRecord p f).cp = s.cp := by unfold State.judgeRecord; (repeat' split) <;> simp
@[simp] theorem State.judgeRecord_config (s : State) (p : Port) (f : RequestFields) : (s.judgeRecord p f).config = s.config := by unfold State.judgeRecord; (repeat' split) <;> simp
@[simp] theorem State.judgeRecord_eu (s : State) (p : Port) (f : RequestFields) : (s.judgeRecord p f).eu = s.eu := by unfold State.judgeRecord; (repeat' split) <;> simp
@[simp] theorem State.judgeRecord_llr (s : State) (p : Port) (f : RequestFields) : (s.judgeRecord p f).llr = s.llr := by unfold State.judgeRecord; (repeat' split) <;> simp
@[simp] theorem State.judgeRecord_lst (s : State) (p : Port) (f : RequestFields) : (s.judgeRecord p f).lst = s.lst := by unfold State.judgeRecord; (repeat' split) <;> simp
@[simp] theorem State.judgeRecord_tsu (s : State) (p : Port) (f : RequestFields) : (s.judgeRecord p f).tsu = s.tsu := by unfold State.judgeRecord; (repeat' split) <;> simp
@[simp] theorem State.judgeRecord_store (s : State) (p : Port) (f : RequestFields) : (s.judgeRecord p f).store = s.store := by unfold State.judgeRecord; (repeat' split) <;> simp
@[simp] theorem State.judgeRecord_me (s : State) (p : Port) (f : RequestFields) : (s.judgeRecord p f).me = s.me := by unfold State.judgeRecord; (repeat' split) <;> simp
@[simp] theorem State.judgeRecord_freeIndex (s : State) (p : Port) (f : RequestFields) : (s.judgeRecord p f).freeIndex = s.freeIndex := by unfold State.judgeRecord; (repeat' split) <;> simp
@[simp] theorem State.judgeRecord_resetPhases (s : State) (p : Port) (f : RequestFields) : (s.judgeRecord p f).resetPhases = s.resetPhases := by unfold State.judgeRecord; (repeat' split) <;> simp
@[simp] theorem State.judgeRecord_pending (s : State) (p : Port) (f : RequestFields) : (s.judgeRecord p f).pending = s.pending := by unfold State.judgeRecord; (repeat' split) <;> simp

/-! `release` -/

@[simp] theorem State.release_time (s : State) (p : Port) (k : Fin 4) : (s.release p k).time = s.time := by simp [State.release]
@[simp] theorem State.release_cp (s : State) (p : Port) (k : Fin 4) : (s.release p k).cp = s.cp := by simp [State.release]
@[simp] theorem State.release_config (s : State) (p : Port) (k : Fin 4) : (s.release p k).config = s.config := by simp [State.release]
@[simp] theorem State.release_llr (s : State) (p : Port) (k : Fin 4) : (s.release p k).llr = s.llr := by simp [State.release]
@[simp] theorem State.release_tsu (s : State) (p : Port) (k : Fin 4) : (s.release p k).tsu = s.tsu := by simp [State.release]
@[simp] theorem State.release_freeIndex (s : State) (p : Port) (k : Fin 4) : (s.release p k).freeIndex = s.freeIndex := by simp [State.release]
@[simp] theorem State.release_resetPhases (s : State) (p : Port) (k : Fin 4) : (s.release p k).resetPhases = s.resetPhases := by simp [State.release]
@[simp] theorem State.release_pending (s : State) (p : Port) (k : Fin 4) : (s.release p k).pending = s.pending := by simp [State.release]

/-! `closeMesh` -/

@[simp] theorem State.closeMesh_time (s : State) (m : Mesh) (st : MeshStatus) : (s.closeMesh m st).time = s.time := by unfold State.closeMesh; dsimp only; split <;> simp
@[simp] theorem State.closeMesh_cp (s : State) (m : Mesh) (st : MeshStatus) : (s.closeMesh m st).cp = s.cp := by unfold State.closeMesh; dsimp only; split <;> simp
@[simp] theorem State.closeMesh_config (s : State) (m : Mesh) (st : MeshStatus) : (s.closeMesh m st).config = s.config := by unfold State.closeMesh; dsimp only; split <;> simp
@[simp] theorem State.closeMesh_llr (s : State) (m : Mesh) (st : MeshStatus) : (s.closeMesh m st).llr = s.llr := by unfold State.closeMesh; dsimp only; split <;> simp
@[simp] theorem State.closeMesh_tsu (s : State) (m : Mesh) (st : MeshStatus) : (s.closeMesh m st).tsu = s.tsu := by unfold State.closeMesh; dsimp only; split <;> simp
@[simp] theorem State.closeMesh_freeIndex (s : State) (m : Mesh) (st : MeshStatus) : (s.closeMesh m st).freeIndex = s.freeIndex := by unfold State.closeMesh; dsimp only; split <;> simp
@[simp] theorem State.closeMesh_resetPhases (s : State) (m : Mesh) (st : MeshStatus) : (s.closeMesh m st).resetPhases = s.resetPhases := by unfold State.closeMesh; dsimp only; split <;> simp
@[simp] theorem State.closeMesh_pending (s : State) (m : Mesh) (st : MeshStatus) : (s.closeMesh m st).pending = s.pending := by unfold State.closeMesh; dsimp only; split <;> simp

/-! `placeUnit` -/

@[simp] theorem State.placeUnit_time (s : State) (m : Mesh) : (s.placeUnit m).time = s.time := by unfold State.placeUnit; dsimp only; split <;> simp
@[simp] theorem State.placeUnit_cp (s : State) (m : Mesh) : (s.placeUnit m).cp = s.cp := by unfold State.placeUnit; dsimp only; split <;> simp
@[simp] theorem State.placeUnit_config (s : State) (m : Mesh) : (s.placeUnit m).config = s.config := by unfold State.placeUnit; dsimp only; split <;> simp
@[simp] theorem State.placeUnit_llr (s : State) (m : Mesh) : (s.placeUnit m).llr = s.llr := by unfold State.placeUnit; dsimp only; split <;> simp
@[simp] theorem State.placeUnit_tsu (s : State) (m : Mesh) : (s.placeUnit m).tsu = s.tsu := by unfold State.placeUnit; dsimp only; split <;> simp
@[simp] theorem State.placeUnit_freeIndex (s : State) (m : Mesh) : (s.placeUnit m).freeIndex = s.freeIndex := by unfold State.placeUnit; dsimp only; split <;> simp
@[simp] theorem State.placeUnit_resetPhases (s : State) (m : Mesh) : (s.placeUnit m).resetPhases = s.resetPhases := by unfold State.placeUnit; dsimp only; split <;> simp
@[simp] theorem State.placeUnit_pending (s : State) (m : Mesh) : (s.placeUnit m).pending = s.pending := by unfold State.placeUnit; dsimp only; split <;> simp

/-! `grantHead` -/

@[simp] theorem State.grantHead_time (s : State) (p : Port) (r : Request) : (s.grantHead p r).time = s.time := by unfold State.grantHead; dsimp only; (repeat' split) <;> simp
@[simp] theorem State.grantHead_cp (s : State) (p : Port) (r : Request) : (s.grantHead p r).cp = s.cp := by unfold State.grantHead; dsimp only; (repeat' split) <;> simp
@[simp] theorem State.grantHead_config (s : State) (p : Port) (r : Request) : (s.grantHead p r).config = s.config := by unfold State.grantHead; dsimp only; (repeat' split) <;> simp
@[simp] theorem State.grantHead_llr (s : State) (p : Port) (r : Request) : (s.grantHead p r).llr = s.llr := by unfold State.grantHead; dsimp only; (repeat' split) <;> simp
@[simp] theorem State.grantHead_tsu (s : State) (p : Port) (r : Request) : (s.grantHead p r).tsu = s.tsu := by unfold State.grantHead; dsimp only; (repeat' split) <;> simp
@[simp] theorem State.grantHead_freeIndex (s : State) (p : Port) (r : Request) : (s.grantHead p r).freeIndex = s.freeIndex := by unfold State.grantHead; dsimp only; (repeat' split) <;> simp
@[simp] theorem State.grantHead_resetPhases (s : State) (p : Port) (r : Request) : (s.grantHead p r).resetPhases = s.resetPhases := by unfold State.grantHead; dsimp only; (repeat' split) <;> simp
@[simp] theorem State.grantHead_pending (s : State) (p : Port) (r : Request) : (s.grantHead p r).pending = s.pending := by unfold State.grantHead; dsimp only; (repeat' split) <;> simp

/-! `stopMesh` -/

@[simp] theorem State.stopMesh_time (s : State) (p : Port) : (s.stopMesh p).time = s.time := by unfold State.stopMesh; (repeat' split) <;> simp
@[simp] theorem State.stopMesh_cp (s : State) (p : Port) : (s.stopMesh p).cp = s.cp := by unfold State.stopMesh; (repeat' split) <;> simp
@[simp] theorem State.stopMesh_config (s : State) (p : Port) : (s.stopMesh p).config = s.config := by unfold State.stopMesh; (repeat' split) <;> simp
@[simp] theorem State.stopMesh_llr (s : State) (p : Port) : (s.stopMesh p).llr = s.llr := by unfold State.stopMesh; (repeat' split) <;> simp
@[simp] theorem State.stopMesh_tsu (s : State) (p : Port) : (s.stopMesh p).tsu = s.tsu := by unfold State.stopMesh; (repeat' split) <;> simp
@[simp] theorem State.stopMesh_freeIndex (s : State) (p : Port) : (s.stopMesh p).freeIndex = s.freeIndex := by unfold State.stopMesh; (repeat' split) <;> simp
@[simp] theorem State.stopMesh_resetPhases (s : State) (p : Port) : (s.stopMesh p).resetPhases = s.resetPhases := by unfold State.stopMesh; (repeat' split) <;> simp
@[simp] theorem State.stopMesh_pending (s : State) (p : Port) : (s.stopMesh p).pending = s.pending := by unfold State.stopMesh; (repeat' split) <;> simp

/-! `portReset` -/

@[simp] theorem State.portReset_time (s : State) (p : Port) : (s.portReset p).time = s.time := by simp [State.portReset]
@[simp] theorem State.portReset_cp (s : State) (p : Port) : (s.portReset p).cp = s.cp := by simp [State.portReset]
@[simp] theorem State.portReset_config (s : State) (p : Port) : (s.portReset p).config = s.config := by simp [State.portReset]
@[simp] theorem State.portReset_llr (s : State) (p : Port) : (s.portReset p).llr = s.llr := by simp [State.portReset]
@[simp] theorem State.portReset_freeIndex (s : State) (p : Port) : (s.portReset p).freeIndex = s.freeIndex := by simp [State.portReset]
@[simp] theorem State.portReset_resetPhases (s : State) (p : Port) : (s.portReset p).resetPhases = s.resetPhases := by simp [State.portReset]
@[simp] theorem State.portReset_pending (s : State) (p : Port) : (s.portReset p).pending = s.pending := by simp [State.portReset]

/-! `readFinish` -/

@[simp] theorem State.readFinish_time (s : State) (i : EffectItem) : (s.readFinish i).time = s.time := by unfold State.readFinish; (repeat' split) <;> simp
@[simp] theorem State.readFinish_config (s : State) (i : EffectItem) : (s.readFinish i).config = s.config := by unfold State.readFinish; (repeat' split) <;> simp
@[simp] theorem State.readFinish_llr (s : State) (i : EffectItem) : (s.readFinish i).llr = s.llr := by unfold State.readFinish; (repeat' split) <;> simp
@[simp] theorem State.readFinish_lst (s : State) (i : EffectItem) : (s.readFinish i).lst = s.lst := by unfold State.readFinish; (repeat' split) <;> simp
@[simp] theorem State.readFinish_tsu (s : State) (i : EffectItem) : (s.readFinish i).tsu = s.tsu := by unfold State.readFinish; (repeat' split) <;> simp
@[simp] theorem State.readFinish_ports (s : State) (i : EffectItem) : (s.readFinish i).ports = s.ports := by unfold State.readFinish; (repeat' split) <;> simp
@[simp] theorem State.readFinish_store (s : State) (i : EffectItem) : (s.readFinish i).store = s.store := by unfold State.readFinish; (repeat' split) <;> simp
@[simp] theorem State.readFinish_me (s : State) (i : EffectItem) : (s.readFinish i).me = s.me := by unfold State.readFinish; (repeat' split) <;> simp
@[simp] theorem State.readFinish_freeIndex (s : State) (i : EffectItem) : (s.readFinish i).freeIndex = s.freeIndex := by unfold State.readFinish; (repeat' split) <;> simp
@[simp] theorem State.readFinish_resetPhases (s : State) (i : EffectItem) : (s.readFinish i).resetPhases = s.resetPhases := by unfold State.readFinish; (repeat' split) <;> simp
@[simp] theorem State.readFinish_pending (s : State) (i : EffectItem) : (s.readFinish i).pending = s.pending := by unfold State.readFinish; (repeat' split) <;> simp

/-! `readTransaction` -/

@[simp] theorem State.readTransaction_time (s : State) (i : EffectItem) (ph : ReadPhase) : (s.readTransaction i ph).time = s.time := by unfold State.readTransaction; (repeat' split) <;> simp
@[simp] theorem State.readTransaction_config (s : State) (i : EffectItem) (ph : ReadPhase) : (s.readTransaction i ph).config = s.config := by unfold State.readTransaction; (repeat' split) <;> simp
@[simp] theorem State.readTransaction_llr (s : State) (i : EffectItem) (ph : ReadPhase) : (s.readTransaction i ph).llr = s.llr := by unfold State.readTransaction; (repeat' split) <;> simp
@[simp] theorem State.readTransaction_lst (s : State) (i : EffectItem) (ph : ReadPhase) : (s.readTransaction i ph).lst = s.lst := by unfold State.readTransaction; (repeat' split) <;> simp
@[simp] theorem State.readTransaction_tsu (s : State) (i : EffectItem) (ph : ReadPhase) : (s.readTransaction i ph).tsu = s.tsu := by unfold State.readTransaction; (repeat' split) <;> simp
@[simp] theorem State.readTransaction_ports (s : State) (i : EffectItem) (ph : ReadPhase) : (s.readTransaction i ph).ports = s.ports := by unfold State.readTransaction; (repeat' split) <;> simp
@[simp] theorem State.readTransaction_store (s : State) (i : EffectItem) (ph : ReadPhase) : (s.readTransaction i ph).store = s.store := by unfold State.readTransaction; (repeat' split) <;> simp
@[simp] theorem State.readTransaction_me (s : State) (i : EffectItem) (ph : ReadPhase) : (s.readTransaction i ph).me = s.me := by unfold State.readTransaction; (repeat' split) <;> simp
@[simp] theorem State.readTransaction_freeIndex (s : State) (i : EffectItem) (ph : ReadPhase) : (s.readTransaction i ph).freeIndex = s.freeIndex := by unfold State.readTransaction; (repeat' split) <;> simp
@[simp] theorem State.readTransaction_resetPhases (s : State) (i : EffectItem) (ph : ReadPhase) : (s.readTransaction i ph).resetPhases = s.resetPhases := by unfold State.readTransaction; (repeat' split) <;> simp
@[simp] theorem State.readTransaction_pending (s : State) (i : EffectItem) (ph : ReadPhase) : (s.readTransaction i ph).pending = s.pending := by unfold State.readTransaction; (repeat' split) <;> simp

/-! `drawAbsent` -/

@[simp] theorem State.drawAbsent_time (s : State) : (s.drawAbsent).time = s.time := by unfold State.drawAbsent; (repeat' split) <;> simp
@[simp] theorem State.drawAbsent_cp (s : State) : (s.drawAbsent).cp = s.cp := by unfold State.drawAbsent; (repeat' split) <;> simp
@[simp] theorem State.drawAbsent_config (s : State) : (s.drawAbsent).config = s.config := by unfold State.drawAbsent; (repeat' split) <;> simp
@[simp] theorem State.drawAbsent_eu (s : State) : (s.drawAbsent).eu = s.eu := by unfold State.drawAbsent; (repeat' split) <;> simp
@[simp] theorem State.drawAbsent_llr (s : State) : (s.drawAbsent).llr = s.llr := by unfold State.drawAbsent; (repeat' split) <;> simp
@[simp] theorem State.drawAbsent_lst (s : State) : (s.drawAbsent).lst = s.lst := by unfold State.drawAbsent; (repeat' split) <;> simp
@[simp] theorem State.drawAbsent_tsu (s : State) : (s.drawAbsent).tsu = s.tsu := by unfold State.drawAbsent; (repeat' split) <;> simp
@[simp] theorem State.drawAbsent_ports (s : State) : (s.drawAbsent).ports = s.ports := by unfold State.drawAbsent; (repeat' split) <;> simp
@[simp] theorem State.drawAbsent_store (s : State) : (s.drawAbsent).store = s.store := by unfold State.drawAbsent; (repeat' split) <;> simp
@[simp] theorem State.drawAbsent_me (s : State) : (s.drawAbsent).me = s.me := by unfold State.drawAbsent; (repeat' split) <;> simp
@[simp] theorem State.drawAbsent_resetPhases (s : State) : (s.drawAbsent).resetPhases = s.resetPhases := by unfold State.drawAbsent; (repeat' split) <;> simp
@[simp] theorem State.drawAbsent_pending (s : State) : (s.drawAbsent).pending = s.pending := by unfold State.drawAbsent; (repeat' split) <;> simp

end Sys2Proof.Machine
end

