-- ==== Sys2Proof/Laws/Basic.lean ====
section
/-! SUPPORT. The small lemmas of the shared operations: pairs of ports, times and timers, posting, the response, the commands handed over. -/

namespace Sys2Proof.Machine

/-! ### A pair of things, one for each port -/

@[simp] theorem PerPort.get_set {α : Type} (x : PerPort α) (p : Port) (a : α) : (x.set p a).get p = a := by
  cases p <;> rfl

@[simp] theorem PerPort.get_set_other {α : Type} (x : PerPort α) (p : Port) (a : α) :
    (x.set p a).get (portOther p) = x.get (portOther p) := by
  cases p <;> rfl

@[simp] theorem PerPort.get_other_set {α : Type} (x : PerPort α) (p : Port) (a : α) :
    (x.set (portOther p) a).get p = x.get p := by
  cases p <;> rfl

@[simp] theorem PerPort.set_set {α : Type} (x : PerPort α) (p : Port) (a b : α) : (x.set p a).set p b = x.set p b := by
  cases p <;> rfl

@[simp] theorem PerPort.set_get {α : Type} (x : PerPort α) (p : Port) : x.set p (x.get p) = x := by
  cases p <;> rfl

theorem PerPort.get_set_ne {α : Type} (x : PerPort α) {p p' : Port} (a : α) (h : p' ≠ p) :
    (x.set p a).get p' = x.get p' := by
  cases p <;> cases p' <;> first | rfl | exact absurd rfl h

@[simp] theorem PerPort.get_map {α : Type} (f : α → α) (x : PerPort α) (p : Port) : (x.map f).get p = f (x.get p) := by
  cases p <;> rfl

theorem PerPort.ext_get {α : Type} {x y : PerPort α} (h : ∀ p, x.get p = y.get p) : x = y := by
  cases x
  cases y
  have h0 := h .mp0
  have h1 := h .mp1
  simp only [PerPort.get] at h0 h1
  rw [h0, h1]

@[simp] theorem portOther_ne (p : Port) : portOther p ≠ p := by cases p <;> simp [portOther]

@[simp] theorem portOther_other (p : Port) : portOther (portOther p) = p := by cases p <;> rfl

theorem eq_or_other (p p' : Port) : p' = p ∨ p' = portOther p := by
  cases p <;> cases p' <;> simp [portOther]

@[simp] theorem portCode_inj {p p' : Port} : portCode p = portCode p' ↔ p = p' := by
  cases p <;> cases p' <;> simp [portCode]

/-! ### The port of a state -/

theorem State.port_eq (s : State) (p : Port) : s.port p = s.ports.get p := rfl

@[simp] theorem State.setPort_ports (s : State) (p : Port) (q : MeshPort) : (s.setPort p q).ports = s.ports.set p q := rfl

@[simp] theorem State.port_setPort (s : State) (p : Port) (q : MeshPort) : (s.setPort p q).port p = q := by
  cases p <;> rfl

@[simp] theorem State.port_setPort_other (s : State) (p : Port) (q : MeshPort) :
    (s.setPort p q).port (portOther p) = s.port (portOther p) := by
  cases p <;> rfl

@[simp] theorem State.setPort_port (s : State) (p : Port) : s.setPort p (s.port p) = s := by
  cases p <;> rfl

theorem State.port_of_ports {s t : State} (h : t.ports = s.ports) (p : Port) : t.port p = s.port p := by
  rw [State.port_eq, State.port_eq, h]

@[simp] theorem State.post_port (s : State) (k : EventKind) (v : Half) (p : Port) : (s.post k v).port p = s.port p := rfl

@[simp] theorem State.respond_port (s : State) (st : Status) (args : List Byte) (p : Port) :
    (s.respond st args).port p = s.port p := rfl

/-! ### Timers -/

@[simp] theorem reached_none (now : Word) : reached now none = false := rfl

@[simp] theorem reached_some (now t : Word) : reached now (some t) = decide ((now - t).toNat < 2 ^ 31) := rfl

/-! ### Posting -/

@[simp] theorem State.posting_nil (s : State) : s.posting [] = s.eu := rfl

theorem State.posting_one (s : State) (k : EventKind) (v : Half) : s.posting [(k, v)] = (s.post k v).eu := rfl

/-- What a posting does to the rest of the state: nothing. -/
theorem State.post_eq (s : State) (k : EventKind) (v : Half) : s.post k v = { s with eu := s.posting [(k, v)] } := rfl

/-- Postings in a row, from a state that agrees in mask and time. -/
theorem State.posting_append (s : State) (es fs : List (EventKind × Half)) :
    s.posting (es ++ fs) = ({ s with eu := s.posting es }).posting fs := by
  simp [State.posting, State.masked, List.foldl_append]

/-- A posting changes the queue at its end alone. -/
theorem EventUnit.queue_prefix_post (u : EventUnit) (m : Bool) (e : Event) : u.queue <+: (u.post m e).queue := by
  unfold EventUnit.post
  split
  · exact List.prefix_rfl
  · split
    · exact List.prefix_append _ _
    · exact List.prefix_rfl

/-- A posting keeps the queue within its 32 places. -/
theorem EventUnit.length_post (u : EventUnit) (m : Bool) (e : Event) (h : u.queue.length ≤ 32) :
    (u.post m e).queue.length ≤ 32 := by
  unfold EventUnit.post
  split
  · exact h
  · split
    · rename_i h2
      simp only [Config.queueCapacity] at h2
      simp only [List.length_append, List.length_singleton]
      omega
    · exact h

@[simp] theorem EventUnit.eventTime_post (u : EventUnit) (m : Bool) (e : Event) : (u.post m e).eventTime = u.eventTime := by
  unfold EventUnit.post
  split
  · rfl
  · split <;> rfl

@[simp] theorem EventUnit.accessViolation_post (u : EventUnit) (m : Bool) (e : Event) :
    (u.post m e).accessViolation = u.accessViolation := by
  unfold EventUnit.post
  split
  · rfl
  · split <;> rfl

/-! ### The command handed over -/

/-- A code and a length that stand in the mailbox name the row that is due. -/
theorem State.commandDue_of_handed {s : State} {code length : Nat} {c : Instr} {l : CommandLength}
    (h : s.handed code length) (hc : commandOfCode code = some (c, l)) : s.commandDue = some (c, l) := by
  obtain ⟨h1, h2, h3, h4, h5, h6, h7, h8⟩ := h
  simp [State.commandDue, State.commandReady, State.lengthInRange, h1, h2, h3, h4, h5, h6, h7, h8, hc]

/-- A command of fixed length handed over is executed. -/
theorem State.runCommand_fixed {s : State} {code length : Nat} {c : Instr} (body : State → State)
    (h : s.handed code length) (hc : commandOfCode code = some (c, .fixed length)) : s.runCommand c body = body s := by
  have h5 : s.cmdLength = length := h.2.2.2.2.1
  simp [State.runCommand, State.commandDue_of_handed h hc, h5]

/-- A command whose length its arguments fix is executed. -/
theorem State.runCommand_byArguments {s : State} {code length : Nat} {c : Instr} (body : State → State)
    (h : s.handed code length) (hc : commandOfCode code = some (c, .byArguments)) : s.runCommand c body = body s := by
  simp [State.runCommand, State.commandDue_of_handed h hc]

/-- A command not handed over has no effect. -/
theorem State.runCommand_idle {s : State} (c : Instr) (body : State → State) (h : s.commandReady = false) :
    s.runCommand c body = s := by
  simp [State.runCommand, State.commandDue, h]

/-- All that executing a command can do: nothing, a refusal of its length, or its body. -/
theorem State.runCommand_cases (s : State) (c : Instr) (body : State → State) :
    s.runCommand c body = s ∨ s.runCommand c body = s.respond .badLength []
      ∨ (s.commandReady = true ∧ s.runCommand c body = body s) := by
  by_cases hr : s.commandReady = true
  · unfold State.runCommand
    split
    · split
      · split
        · split
          · exact .inr (.inr ⟨hr, rfl⟩)
          · exact .inr (.inl rfl)
        · exact .inr (.inr ⟨hr, rfl⟩)
      · exact .inl rfl
    · exact .inl rfl
  · exact .inl (s.runCommand_idle c body (by simpa using hr))

/-! ### The response -/

/-- The completion of a command, field by field (R173). -/
theorem State.respond_eq (s : State) (st : Status) (args : List Byte) :
    s.respond st args =
      { s with
        cp := { s.cp with
          rspBox := Memory.holding (responseBytes st args), cmdFlag := false, rspFlag := false, extent := 0 }
        eu := s.posting [(.responseReady, st.code.setWidth 16)] } := rfl

@[simp] theorem State.respond_cmdFlag (s : State) (st : Status) (args : List Byte) :
    (s.respond st args).cp.cmdFlag = false := rfl

@[simp] theorem State.respond_rspFlag (s : State) (st : Status) (args : List Byte) :
    (s.respond st args).cp.rspFlag = false := rfl

@[simp] theorem State.respond_extent (s : State) (st : Status) (args : List Byte) : (s.respond st args).cp.extent = 0 := rfl

@[simp] theorem State.respond_offset (s : State) (st : Status) (args : List Byte) :
    (s.respond st args).cp.offset = s.cp.offset := rfl

@[simp] theorem State.respond_initBusy (s : State) (st : Status) (args : List Byte) :
    (s.respond st args).cp.initBusy = s.cp.initBusy := rfl

@[simp] theorem State.respond_cmdBox (s : State) (st : Status) (args : List Byte) :
    (s.respond st args).cp.cmdBox = s.cp.cmdBox := rfl

@[simp] theorem State.respond_rspBox (s : State) (st : Status) (args : List Byte) :
    (s.respond st args).cp.rspBox = Memory.holding (responseBytes st args) := rfl

end Sys2Proof.Machine
end

