-- ==== Sys2Proof/Laws/Memory.lean ====
section
/-! SUPPORT. The laws of the mailboxes' bytes: the canonical form is kept, a read after a write, a read elsewhere, and equal reads are equal mailboxes. -/

namespace Sys2Proof.Machine

/-- A cell list from address `lo` on lists nothing below `lo`. -/
theorem Memory.read_below {lo : Nat} {m : Memory} (h : Memory.wfFrom lo m = true) {a : Nat} (ha : a < lo) :
    m.read a = 0 := by
  induction m generalizing lo with
  | nil => rfl
  | cons c m ih =>
    obtain ⟨k, v⟩ := c
    simp only [Memory.wfFrom, Bool.and_eq_true, decide_eq_true_eq] at h
    have hk : k ≠ a := by omega
    simp only [Memory.read, if_neg hk]
    exact ih h.2 (by omega)

theorem Memory.wfFrom_mono {lo lo' : Nat} (hl : lo' ≤ lo) {m : Memory} (h : Memory.wfFrom lo m = true) :
    Memory.wfFrom lo' m = true := by
  cases m with
  | nil => rfl
  | cons c m =>
    obtain ⟨k, v⟩ := c
    simp only [Memory.wfFrom, Bool.and_eq_true, decide_eq_true_eq] at h ⊢
    exact ⟨⟨⟨by omega, h.1.1.2⟩, h.1.2⟩, h.2⟩

/-- Inserting a byte keeps the canonical form. -/
theorem Memory.wfFrom_insert {lo a : Nat} {m : Memory} (b : Byte) (h : Memory.wfFrom lo m = true) (hlo : lo ≤ a)
    (ha : a < Config.mailboxSize) : Memory.wfFrom lo (m.insert a b) = true := by
  induction m generalizing lo with
  | nil =>
    unfold Memory.insert
    split
    · rfl
    · rename_i hb
      simp only [Memory.wfFrom, Bool.and_eq_true, decide_eq_true_eq, bne_iff_ne, ne_eq]
      exact ⟨⟨⟨hlo, ha⟩, hb⟩, trivial⟩
  | cons c m ih =>
    obtain ⟨k, v⟩ := c
    simp only [Memory.wfFrom, Bool.and_eq_true, decide_eq_true_eq, bne_iff_ne, ne_eq] at h
    obtain ⟨⟨⟨h1, h2⟩, h3⟩, h4⟩ := h
    unfold Memory.insert
    split
    · rename_i hlt
      split <;> simp_all [Memory.wfFrom, Nat.succ_le_of_lt hlt]
    · split
      · rename_i _ heq
        subst heq
        split
        · exact Memory.wfFrom_mono (by omega) h4
        · simp_all [Memory.wfFrom]
      · simp only [Memory.wfFrom, Bool.and_eq_true, decide_eq_true_eq, bne_iff_ne, ne_eq]
        exact ⟨⟨⟨h1, h2⟩, h3⟩, ih h4 (by omega)⟩

/-- What any address reads after an insertion. -/
theorem Memory.read_insert {lo a : Nat} {m : Memory} (b : Byte) (h : Memory.wfFrom lo m = true) (i : Nat) :
    (m.insert a b).read i = if i = a then b else m.read i := by
  induction m generalizing lo with
  | nil =>
    unfold Memory.insert
    split
    · rename_i hb
      simp only [Memory.read, hb, ite_self]
    · simp only [Memory.read, eq_comm (a := a)]
  | cons c m ih =>
    obtain ⟨k, v⟩ := c
    simp only [Memory.wfFrom, Bool.and_eq_true, decide_eq_true_eq, bne_iff_ne, ne_eq] at h
    obtain ⟨⟨⟨h1, h2⟩, h3⟩, h4⟩ := h
    unfold Memory.insert
    split
    · rename_i hlt
      split
      · rename_i hb
        by_cases hi : i = a
        · subst hi
          rw [if_pos rfl, hb]
          simp only [Memory.read, if_neg (by omega : ¬ k = i)]
          exact Memory.read_below h4 (by omega)
        · rw [if_neg hi]
      · simp only [Memory.read, eq_comm (a := a)]
    · split
      · rename_i _ heq
        subst heq
        split
        · rename_i hb
          by_cases hi : i = a
          · subst hi
            rw [if_pos rfl, hb]
            exact Memory.read_below h4 (by omega)
          · simp only [Memory.read, if_neg hi, if_neg (Ne.symm hi)]
        · by_cases hi : i = a
          · simp [Memory.read, hi]
          · simp [Memory.read, hi, Ne.symm hi]
      · rename_i hlt hne
        simp only [Memory.read, ih h4]
        by_cases hk : k = i
        · subst hk
          simp [Ne.symm hne]
        · simp [hk]

theorem Memory.wf_write {m : Memory} (h : m.wf = true) (a : Nat) (b : Byte) : (m.write a b).wf = true := by
  unfold Memory.write
  split
  · exact Memory.wfFrom_insert b h (Nat.zero_le a) ‹_›
  · exact h

/-- What any address reads after a byte has been stored. -/
theorem Memory.read_write {m : Memory} (h : m.wf = true) (a : Nat) (b : Byte) (i : Nat) :
    (m.write a b).read i = if i = a ∧ a < Config.mailboxSize then b else m.read i := by
  unfold Memory.write
  split
  · rename_i ha
    simp [Memory.read_insert b h, ha]
  · rename_i ha
    simp [ha]

theorem Memory.read_write_same {m : Memory} (h : m.wf = true) {a : Nat} (ha : a < Config.mailboxSize) (b : Byte) :
    (m.write a b).read a = b := by
  simp [Memory.read_write h, ha]

theorem Memory.read_write_other {m : Memory} (h : m.wf = true) {a i : Nat} (b : Byte) (hi : i ≠ a) :
    (m.write a b).read i = m.read i := by
  simp [Memory.read_write h, hi]

theorem Memory.wfFrom_cellsAt (a : Nat) (bs : List Byte) (h : a + bs.length ≤ Config.mailboxSize) :
    Memory.wfFrom a (Memory.cellsAt a bs) = true := by
  induction bs generalizing a with
  | nil => rfl
  | cons b bs ih =>
    simp only [List.length_cons] at h
    unfold Memory.cellsAt
    split
    · exact Memory.wfFrom_mono (by omega) (ih (a + 1) (by omega))
    · have := ih (a + 1) (by omega)
      simp_all [Memory.wfFrom]
      omega

theorem Memory.read_cellsAt (a : Nat) (bs : List Byte) (i : Nat) :
    (Memory.cellsAt a bs).read i = if a ≤ i then bs.getD (i - a) 0 else 0 := by
  induction bs generalizing a with
  | nil => simp [Memory.cellsAt, Memory.read]
  | cons b bs ih =>
    unfold Memory.cellsAt
    by_cases hi : i = a
    · subst hi
      split
      · rename_i hb
        rw [ih]
        simp [hb]
      · simp [Memory.read]
    · have key : (if a + 1 ≤ i then bs.getD (i - (a + 1)) 0 else 0) = if a ≤ i then (b :: bs).getD (i - a) 0 else 0 := by
        by_cases hai : a ≤ i
        · have h1 : a + 1 ≤ i := by omega
          obtain ⟨n, rfl⟩ : ∃ n, i = a + 1 + n := ⟨i - (a + 1), by omega⟩
          have h2 : a + 1 + n - a = n + 1 := by omega
          rw [if_pos h1, if_pos hai, h2, Nat.add_sub_cancel_left, List.getD_cons_succ]
        · simp [hai, show ¬ a + 1 ≤ i by omega]
      split
      · rw [ih, key]
      · simp only [Memory.read, if_neg (Ne.symm hi)]
        rw [ih, key]

/-- A response's bytes are in canonical form. -/
theorem Memory.wf_holding (bs : List Byte) : (Memory.holding bs).wf = true :=
  Memory.wfFrom_cellsAt 0 _ (by simp [Config.mailboxSize])

/-- A mailbox that holds bytes reads them, and 0 after them. -/
theorem Memory.read_holding (bs : List Byte) (h : bs.length ≤ Config.mailboxSize) (i : Nat) :
    (Memory.holding bs).read i = bs.getD i 0 := by
  simp [Memory.holding, Memory.read_cellsAt, List.take_of_length_le h]

/-- Two canonical mailboxes that read the same at every address are the same data. -/
theorem Memory.ext_read {lo : Nat} {m n : Memory} (hm : Memory.wfFrom lo m = true) (hn : Memory.wfFrom lo n = true)
    (h : ∀ a, m.read a = n.read a) : m = n := by
  induction m generalizing lo n with
  | nil =>
    cases n with
    | nil => rfl
    | cons c n =>
      obtain ⟨k, v⟩ := c
      have hk := h k
      simp only [Memory.wfFrom, Bool.and_eq_true, bne_iff_ne, ne_eq] at hn
      simp only [Memory.read, if_true] at hk
      exact absurd hk.symm hn.1.2
  | cons c m ih =>
    obtain ⟨k, v⟩ := c
    cases n with
    | nil =>
      have hk := h k
      simp only [Memory.wfFrom, Bool.and_eq_true, bne_iff_ne, ne_eq] at hm
      simp only [Memory.read, if_true] at hk
      exact absurd hk hm.1.2
    | cons d n =>
      obtain ⟨k', v'⟩ := d
      simp only [Memory.wfFrom, Bool.and_eq_true, decide_eq_true_eq, bne_iff_ne, ne_eq] at hm hn
      have hkk : k = k' := by
        rcases Nat.lt_trichotomy k k' with hl | hl | hl
        · have hk := h k
          simp only [Memory.read, if_true, if_neg (by omega : ¬ k' = k)] at hk
          exact absurd (hk.trans (Memory.read_below hn.2 (by omega))) hm.1.2
        · exact hl
        · have hk := h k'
          simp only [Memory.read, if_true, if_neg (by omega : ¬ k = k')] at hk
          exact absurd (hk.symm.trans (Memory.read_below hm.2 (by omega))) hn.1.2
      subst hkk
      have hv : v = v' := by simpa [Memory.read] using h k
      subst hv
      have htail : m = n := by
        refine ih hm.2 hn.2 fun a => ?_
        by_cases ha : k = a
        · subst ha
          rw [Memory.read_below hm.2 (by omega), Memory.read_below hn.2 (by omega)]
        · simpa [Memory.read, ha] using h a
      rw [htail]

/-- The mailboxes after reset are in canonical form. -/
theorem State.reset_mailboxes_wf : State.reset.cp.cmdBox.wf = true ∧ State.reset.cp.rspBox.wf = true := ⟨rfl, rfl⟩

end Sys2Proof.Machine
end

