-- ==== Sys2Proof/Laws/Operations.lean ====
section
/-! SUPPORT. One lemma for each shared operation that says all it can do: clamps, times, slots, coverage waits, samples, the store, releases. -/

namespace Sys2Proof.Machine

/-! ### Numbers and times -/

/-- The clamp as a maximum of a minimum. -/
theorem clampInt_eq {lo hi : Int} (h : lo ≤ hi) (v : Int) : clampInt lo hi v = max lo (min hi v) := by
  unfold clampInt
  split
  · omega
  · split <;> omega

theorem clampInt_mem {lo hi : Int} (h : lo ≤ hi) (v : Int) : lo ≤ clampInt lo hi v ∧ clampInt lo hi v ≤ hi := by
  rw [clampInt_eq h]
  omega

/-- A clamp marks exactly the values it changes. -/
theorem clampMark_marked (lo hi v : Int) :
    (clampMark lo hi v).marked = true ↔ v ≠ (clampMark lo hi v).value := by
  simp only [clampMark, clampInt, Bool.or_eq_true, decide_eq_true_eq]
  split
  · omega
  · split <;> omega

theorem satAdd_toNat (c : Half) (n : Nat) : (satAdd c n).toNat = min 65535 (c.toNat + n) := by
  unfold satAdd
  rw [BitVec.toNat_ofNat]
  exact Nat.mod_eq_of_lt (by omega)

theorem elapsed_eq (a b : Word) : elapsed a b = (b.toNat + 2 ^ 32 - a.toNat) % 2 ^ 32 := by
  unfold elapsed
  rw [BitVec.toNat_sub]
  have := a.isLt
  congr 1
  omega

theorem earlier_iff (a b : Word) : earlier a b = true ↔ 1 ≤ elapsed a b ∧ elapsed a b < 2 ^ 31 := by
  simp [earlier]

theorem later_iff (a b : Word) : later a b = true ↔ 2 ^ 31 < elapsed a b := by simp [later]

/-- The two elapsed times between different times make up the whole circle. -/
theorem elapsed_swap {a b : Word} (h : a ≠ b) : elapsed a b + elapsed b a = 2 ^ 32 := by
  have ha := a.isLt
  have hb := b.isLt
  have hne : a.toNat ≠ b.toNat := fun he => h (BitVec.eq_of_toNat_eq he)
  rw [elapsed_eq, elapsed_eq]
  omega

theorem elapsed_self (a : Word) : elapsed a a = 0 := by simp [elapsed]

/-- b is later than a exactly where a is earlier than b. -/
theorem later_eq_earlier (a b : Word) : later b a = earlier a b := by
  by_cases h : a = b
  · subst h
    simp [later, earlier, elapsed_self]
  · have hs := elapsed_swap h
    simp only [later, earlier]
    by_cases h1 : 2 ^ 31 < elapsed b a
    · have : 1 ≤ elapsed a b := by
        have := (a - b).isLt
        simp only [elapsed] at hs ⊢
        omega
      have : elapsed a b < 2 ^ 31 := by omega
      simp_all
    · have h2 : ¬ elapsed a b < 2 ^ 31 := by omega
      rw [decide_eq_false h1, decide_eq_false h2, Bool.and_false]

/-! ### Bytes (R192) -/

theorem toNat_append_byte (a b : Byte) : (a ++ b : Half).toNat = a.toNat * 256 + b.toNat := by
  have h := BitVec.toNat_append a b
  rw [Nat.shiftLeft_eq, Nat.mul_comm, ← Nat.two_pow_add_eq_or_of_lt b.isLt] at h
  exact h.trans (by omega)

/-- Two bytes spell their concatenation. -/
theorem half_pair (a b : Byte) : half [a, b] = a ++ b := by
  apply BitVec.eq_of_toNat_eq
  rw [toNat_append_byte]
  have ha := a.isLt
  have hb := b.isLt
  simp [half, natOfBytes]
  omega

/-! ### Held in a reset (R168) -/

theorem State.unlessHeld_released {s : State} (h : s.cp.hold = .released) (t : State) : s.unlessHeld t = t := by
  simp [State.unlessHeld, h]

theorem State.unlessHeld_held {s : State} (h : s.cp.hold ≠ .released) (t : State) : s.unlessHeld t = s := by
  simp [State.unlessHeld, h]

/-! ### Slots (R124, R127) -/

/-- The free slot is the lowest that no request occupies. -/
theorem freeSlot_some {slots : List Request} {k : Fin 4} :
    freeSlot slots = some k ↔ (∀ r ∈ slots, r.slot ≠ k) ∧ ∀ j < k, ∃ r ∈ slots, r.slot = j := by
  have key : ∀ p : Fin 4 → Bool,
      ([0, 1, 2, 3] : List (Fin 4)).find? p = some k ↔ p k = true ∧ ∀ j < k, p j = false := by
    intro p
    cases h0 : p 0 <;> cases h1 : p 1 <;> cases h2 : p 2 <;> cases h3 : p 3 <;>
      (simp only [List.find?, h0, h1, h2, h3]; revert k; simp [Fin.forall_fin_succ, h0, h1, h2, h3])
  unfold freeSlot
  rw [key]
  simp

/-- No slot is free exactly where every number is taken. -/
theorem freeSlot_none {slots : List Request} : freeSlot slots = none ↔ ∀ k, ∃ r ∈ slots, r.slot = k := by
  unfold freeSlot
  rw [List.find?_eq_none]
  simp [Fin.forall_fin_succ]

/-- Freeing the head's slot leaves the rest, where slot numbers differ. -/
theorem filter_slot_head {r : Request} {rest : List Request} (h : ∀ x ∈ rest, x.slot ≠ r.slot) :
    (r :: rest).filter (fun x => x.slot != r.slot) = rest := by
  simp [List.filter_eq_self]
  exact h

theorem map_slot_head {r : Request} {rest : List Request} (f : Request → Request) (h : ∀ x ∈ rest, x.slot ≠ r.slot) :
    (r :: rest).map (fun x => if x.slot = r.slot then f x else x) = f r :: rest := by
  simp only [List.map_cons, if_true]
  congr 1
  conv_rhs => rw [← List.map_id rest]
  exact List.map_congr_left fun x hx => by simp [h x hx]

/-! ### Coverage waits (R119, R132) -/

/-- All that a test of a coverage wait can do: nothing, or READY with COVER_INCOMPLETE as found. -/
theorem settleCover_cases (s : State) (r : Request) :
    settleCover s r = r ∨ (r.state = .pendingCover ∧ ∃ b, settleCover s r = r.makeReady b) := by
  unfold settleCover
  split
  · rename_i c h1 h2
    split
    · exact .inr ⟨h1, _, rfl⟩
    · split
      · exact .inl rfl
      · exact .inr ⟨h1, _, rfl⟩
  · exact .inl rfl

@[simp] theorem settleCover_slot (s : State) (r : Request) : (settleCover s r).slot = r.slot := by
  rcases settleCover_cases s r with h | ⟨-, b, h⟩ <;> rw [h]; rfl

@[simp] theorem settleCover_fields (s : State) (r : Request) : (settleCover s r).fields = r.fields := by
  rcases settleCover_cases s r with h | ⟨-, b, h⟩ <;> rw [h]; rfl

/-- A test never moves a request into or out of the engine. -/
theorem settleCover_inEngine (s : State) (r : Request) : (settleCover s r).state = .inEngine ↔ r.state = .inEngine := by
  rcases settleCover_cases s r with h | ⟨h1, b, h⟩
  · rw [h]
  · rw [h]
    simp [Request.makeReady, h1]

/-- A test reads the timeline and the tracker's state alone. -/
theorem settleCover_congr {s t : State} (h1 : s.lst.timeline = t.lst.timeline) (h2 : s.trackerState = t.trackerState)
    (r : Request) : settleCover s r = settleCover t r := by
  simp only [settleCover, h1, h2]

/-- A test of the waits at one port. -/
theorem State.testCover_port (s : State) (p : Port) :
    s.testCover.port p = { s.port p with slots := (s.port p).slots.map (settleCover s) } := by
  cases p <;> rfl

/-- A request whose frame is resolved: its slot and fields stay, it waits for coverage or is READY. -/
theorem resolveFrame_cases (s : State) (rec : StrobeRecord) (r : Request) :
    (resolveFrame s rec r).slot = r.slot ∧ (resolveFrame s rec r).fields = r.fields
      ∧ (resolveFrame s rec r).strobe = some ⟨rec.frame, rec.time⟩
      ∧ (resolveFrame s rec r).nc = r.nc ∧ (resolveFrame s rec r).nr = r.nr
      ∧ (((resolveFrame s rec r).state = .ready ∧ (resolveFrame s rec r).waitTimer = none)
          ∨ ((resolveFrame s rec r).state = .pendingCover ∧ (resolveFrame s rec r).waitTimer = r.waitTimer
              ∧ (resolveFrame s rec r).coverTime.isSome = true)) := by
  unfold resolveFrame
  dsimp only
  split
  · generalize hr : ({ ({ r with strobe := some ⟨rec.frame, rec.time⟩ } : Request) with
        state := .pendingCover
        coverTime := some (rowTime r.fields s.config.height rec.time (r.nr - 1)) } : Request) = r'
    rcases settleCover_cases s r' with h | ⟨h1, b, h⟩
    · rw [h, ← hr]
      exact ⟨rfl, rfl, rfl, rfl, rfl, .inr ⟨rfl, rfl, rfl⟩⟩
    · rw [h, ← hr]
      exact ⟨rfl, rfl, rfl, rfl, rfl, .inl ⟨rfl, rfl⟩⟩
  · exact ⟨rfl, rfl, rfl, rfl, rfl, .inl ⟨rfl, rfl⟩⟩

/-! ### Samples (R70, R71) -/

/-- What entering a sample does: it is late, or the timeline and perhaps the clamp counter change. -/
theorem State.enterSample_cases (s : State) (x : Sample) :
    (s.isLate x.time = true
        ∧ s.enterSample x = ({ s with lst := { s.lst with late := satAdd s.lst.late 1 } }, .late, false))
      ∨ (s.isLate x.time = false
          ∧ ∃ clamps, (s.enterSample x).1 =
              { s with
                lst := { s.lst with
                  timeline := (foldOrAppend s.lst.timeline { x with focal := s.clampedFocal x.focal }).1
                  clamps := clamps } }) := by
  unfold State.enterSample
  cases h : s.isLate x.time
  · exact .inr ⟨rfl, _, rfl⟩
  · exact .inl ⟨rfl, rfl⟩

/-- A focal value clamped to a lens's range. -/
theorem clampFocal_eq {lo hi : Half} (h : lo.toNat ≤ hi.toNat) (f : Half) :
    clampFocal lo hi f = BitVec.ofNat 16 (max lo.toNat (min hi.toNat f.toNat)) := by
  unfold clampFocal
  apply BitVec.eq_of_toNat_eq
  have := lo.isLt
  have := hi.isLt
  have := f.isLt
  split_ifs <;> simp <;> omega

/-- A sample's outcome and its clamp mark rest on the tracker alone. -/
theorem State.enterSample_congr {s t : State} (h : s.lst = t.lst) (x : Sample) :
    (s.enterSample x).2 = (t.enterSample x).2 := by
  unfold State.enterSample State.isLate State.newest? State.clampedFocal
  rw [h]
  cases t.lst.timeline.getLast? <;> dsimp only <;> split_ifs <;> rfl

/-! ### The posted feed (R79, R80, R82) -/

/-- What an accepted POST command does first: the timer restarts; a stale feed becomes fresh, the waits are tested,
and the source fails over where AUTO_FAILOVER has it. -/
theorem State.touchPosted_cases (s : State) :
    let timer : Option Word := some (s.time + BitVec.ofNat 32 (1000 * s.config.postedSilence.toNat))
    let restored : State := ({ s with
      lst := { s.lst with postedTimer := timer, postedFresh := true }
      eu := s.posting [(.linkRestored, 1)] }).testCover
    let fails := s.config.autoFailover = true ∧ s.lst.source = .link ∧ s.llr.fresh = false
    (s.lst.postedFresh = true → s.touchPosted = { s with lst := { s.lst with postedTimer := timer } })
      ∧ (s.lst.postedFresh = false → ¬ fails → s.touchPosted = restored)
      ∧ (s.lst.postedFresh = false → fails →
          s.touchPosted = ({ restored with
            lst := { restored.lst with source := .posted }
            eu := restored.posting [(.sourceChanged, 0x0101#16)] }).testCover) := by
  refine ⟨fun h => ?_, fun h h2 => ?_, fun h h2 => ?_⟩
  · simp [State.touchPosted, h, expiry, millis]
  · simp only [State.touchPosted, h, Bool.false_eq_true, if_false]
    unfold State.failover
    rw [if_neg]
    · rfl
    · simp only [State.becomeFresh, State.setFresh]
      simpa [State.becomeFresh, State.setFresh] using h2
  · simp only [State.touchPosted, h, Bool.false_eq_true, if_false]
    unfold State.failover
    rw [if_pos]
    · rfl
    · simp [State.becomeFresh, State.setFresh, h2]

/-! ### The profile store -/

/-- The check after an attach or a converter change reads the store alone. -/
theorem State.profileCheck_eq {s t : State} {r : LensRecord} (h1 : s.lst.record = some r) (h2 : s.store = t.store) :
    s.profileCheck =
      { s with
        eu := s.posting
          (if (t.slotWithKey r.lensId r.converter).isSome = true ∨ (t.slotWithKey r.lensId 0).isSome = true then []
          else [(.noProfile, r.converter.setWidth 16)]) } := by
  have hslot : ∀ id c, s.slotWithKey id c = t.slotWithKey id c := by
    intro id c
    simp [State.slotWithKey, findSlot, State.profile?, h2]
  unfold State.profileCheck
  rw [h1]
  simp only [hslot, Bool.or_eq_true]
  split_ifs <;> rfl

/-- The slot found is the lowest that passes the test. -/
theorem findSlot_some {s : State} {test : Option Profile → Bool} {k : Fin 16} (h : findSlot s test = some k) :
    test (s.profile? k) = true ∧ ∀ j < k, test (s.profile? j) = false := by
  have all : ∀ j : Fin 16, slotNumbers.idxOf j = j.val := by decide
  obtain ⟨h1, as, bs, h2, h3⟩ := List.find?_eq_some_iff_append.mp h
  refine ⟨h1, fun j hj => ?_⟩
  have hk : as.length = k.val := by
    have hk := all k
    have hmem : k ∉ as := fun hin => by simpa [h1] using h3 k hin
    rw [h2, List.idxOf_append, if_neg hmem, List.idxOf_cons_self] at hk
    omega
  have hjs : j ∈ as := by
    have hjn := all j
    by_contra hn
    rw [h2, List.idxOf_append, if_neg hn] at hjn
    omega
  simpa using h3 j hjs

theorem findSlot_none {s : State} {test : Option Profile → Bool} (h : findSlot s test = none) (k : Fin 16) :
    test (s.profile? k) = false := by
  have hm : k ∈ slotNumbers := by
    revert k
    decide
  simpa using List.find?_eq_none.mp h k hm

/-- The slot that a key names holds it, and no lower slot does. -/
theorem State.slotWithKey_some {s : State} {id : Word} {c : BitVec 2} {k : Fin 16} (h : s.slotWithKey id c = some k) :
    s.key? k = some (id, c) ∧ ∀ j < k, s.key? j ≠ some (id, c) := by
  obtain ⟨h1, h2⟩ := findSlot_some h
  have conv : ∀ j : Fin 16, (match s.profile? j with
      | some p => p.header.lensId == id && p.header.converter == c
      | none => false) = true ↔ s.key? j = some (id, c) := by
    intro j
    unfold State.key?
    cases s.profile? j <;> simp
  exact ⟨(conv k).mp h1, fun j hj he => Bool.false_ne_true ((h2 j hj).symm.trans ((conv j).mpr he))⟩

theorem State.slotWithKey_none {s : State} {id : Word} {c : BitVec 2} (h : s.slotWithKey id c = none) (k : Fin 16) :
    s.key? k ≠ some (id, c) := by
  have hf := findSlot_none h k
  unfold State.key?
  intro he
  cases hp : s.profile? k with
  | none => simp [hp] at he
  | some p =>
    rw [hp] at he hf
    simp only [Option.map_some, Option.some.injEq, Prod.mk.injEq] at he
    simp [he.1, he.2] at hf

/-- Reading a slot after one has been set. -/
theorem State.profile?_setSlot (s : State) (k j : Fin 16) (x : Slot) :
    (s.setSlot k x).profile? j = if j = k then x.profile else s.profile? j := by
  unfold State.profile? State.setSlot
  simp only [Vector.get_eq_getElem, Vector.getElem_set]
  by_cases h : j = k
  · simp [h]
  · have : k.val ≠ j.val := fun he => h (Fin.ext he.symm)
    simp [h, this]

/-- What the store's part of a release does: no operation is pending on the bound slot, or one is applied. -/
theorem State.releaseStore_cases (s : State) :
    s.releaseStore = { s with store := { s.store with boundSlot := none } }
      ∨ (∃ k p, s.store.pendingOp = some (.commit k) ∧ s.store.boundSlot = some k ∧ s.store.staging.content = some p
          ∧ s.releaseStore =
              { s.applyCommit k p with store := { (s.applyCommit k p).store with boundSlot := none } })
      ∨ ∃ k, s.store.pendingOp = some (.delete k) ∧ s.store.boundSlot = some k
          ∧ s.releaseStore = { s.applyDelete k with store := { (s.applyDelete k).store with boundSlot := none } } := by
  unfold State.releaseStore
  split
  · rename_i k b h1 h2
    split
    · rename_i hkb
      subst hkb
      split
      · rename_i p hp
        exact .inr (.inl ⟨k, p, h1, h2, hp, rfl⟩)
      · exact .inl rfl
    · exact .inl rfl
  · rename_i k b h1 h2
    split
    · rename_i hkb
      subst hkb
      exact .inr (.inr ⟨k, h1, h2, rfl⟩)
    · exact .inl rfl
  · exact .inl rfl

/-! ### Units of a mesh -/

/-- Placing a unit: the next row is reached, or the trailer closes the mesh. -/
theorem State.placeUnit_eq (s : State) (m : Mesh) :
    s.placeUnit m =
      if m.placed.cursor < m.request.nr then (s.push m.port m.unit.words).reachRow m.placed
      else (s.push m.port m.unit.words).closeMesh m.placed (if m.epochChanged then .lensChanged else .complete) := by
  unfold State.placeUnit Mesh.placed
  split <;> rfl

/-- A placed unit moves only the cursor, the counts and the stall timer of its mesh. -/
theorem Mesh.placed_frame (m : Mesh) :
    m.placed.port = m.port ∧ m.placed.request = m.request ∧ m.placed.binding = m.binding ∧ m.placed.epoch = m.epoch
      ∧ m.placed.centre = m.centre ∧ m.placed.stallLimit = m.stallLimit ∧ m.placed.epochChanged = m.epochChanged
      ∧ m.placed.unit = m.unit ∧ m.placed.stallTimer = none := by
  unfold Mesh.placed
  split <;> exact ⟨rfl, rfl, rfl, rfl, rfl, rfl, rfl, rfl, rfl⟩

/-- A release frees the slot of its port and leaves the rest of that port alone. -/
theorem State.release_port (s : State) (p : Port) (k : Fin 4) : (s.release p k).port p = (s.port p).free k := by
  unfold State.release
  show (((s.setPort p ((s.port p).free k)).releaseStore).ports).get p = _
  simp

end Sys2Proof.Machine
end

