-- ==== Sys2Proof/Tests/Slice0.lean ====
section
/-! SUPPORT. The model's own tests: the ill-formed terms, examples of the spec on small states, and for each statement with hypotheses a witness that meets them, named witness_<statement>. -/

namespace Sys2Proof.Tests

open Sys2Proof.Machine

/-! ### Small states -/

/-- The part after its reset, INIT_BUSY clear. -/
def live : State := { State.reset with cp := { State.reset.cp with initBusy := false } }

/-- The state that a command leaves. -/
def after (c : Instr) (s : State) : State :=
  match exec c s with
  | .next t => t
  | _ => s

/-- The part held in a PIN reset. -/
def held : State := after .pinReset { live with resetPhases := [.start] }

def afterAll (s : State) : List Instr → State
  | [] => s
  | c :: cs => afterAll (after c s) cs

/-- A command record handed over in the command mailbox. -/
def commanded (bytes : List Byte) (s : State) : State :=
  { s with
    cp := { s.cp with
      cmdBox := Memory.holding bytes, cmdFlag := true, rspFlag := true, extent := bytes.length } }

/-- The arguments of the response in the response mailbox. -/
def answer (s : State) : List Byte := s.cp.rspBox.slice 2 (natOfBytes (s.cp.rspBox.slice 0 2) - 2)

def set1 : CoeffSet := { CoeffSet.zero with fill := 0x100000 }
def header1 : ProfileHeader := ⟨7, 0, false, 256, 0, 0, [100], [0]⟩
def profile1 : Profile := ⟨header1, [set1]⟩
def staged1 : Staged := ⟨header1, [some set1]⟩

/-- The store with a profile of lens 7 in slot 3. -/
def stocked (s : State) : State := s.setSlot 3 ⟨1, some profile1⟩

def entry1 : Entry := ⟨10, 20, 100, 5, 0, .link⟩
def record1 : LensRecord := ⟨7, 0, 100, 100, 0, .attached, 1⟩
def tracker1 : Tracker := { Tracker.reset with record := some record1, epoch := 1, timeline := [entry1] }

/-- A lens is attached. -/
def lensOn (s : State) : State := { s with lst := tracker1 }

/-- W and H are 64. -/
def sized (s : State) : State := { s with config := { ConfigSet.reset with width := 64, height := 64 } }

def fields1 : RequestFields := { RequestFields.zero with width := 64, height := 64, latest := true }

def config1 (mode : TriggerMode) (policy : FullPolicy) : PortConfig :=
  { enabled := true, mode := mode, template := fields1, policy := policy, waitLimit := 40, stallLimit := 10 }

/-- A request of fields1 in slot `k`. -/
def request1 (k : Fin 4) (state : SlotState) : Request :=
  { slot := k, fields := fields1, fillClamped := false, nc := 5, nr := 5
    strobe := some ⟨1, 100⟩, coverTime := none, coverIncomplete := false, waitTimer := none, state := state }

def waiting1 (k : Fin 4) : Request :=
  { request1 k .pendingFrame with strobe := none, waitTimer := some 0 }

def covering1 (k : Fin 4) (cover : Word) : Request :=
  { request1 k .pendingCover with coverTime := some cover, waitTimer := some 0 }

def allSlots : List Request := [request1 0 .ready, request1 1 .ready, request1 2 .ready, request1 3 .ready]

def port1 (mode : TriggerMode) (policy : FullPolicy) (slots : List Request) : MeshPort :=
  { MeshPort.reset [] with config := config1 mode policy, slots := slots }

/-- MP0 is ENABLED and holds these requests. -/
def ported (slots : List Request) (s : State) : State := (sized s).setPort .mp0 (port1 .command .dropNew slots)

def unbound : Binding := ⟨.noProfile, none, 0, 0, 0⟩
def bound3 : Binding := ⟨.exact, some 3, 1, 7, 0⟩

def mesh1 (b : Binding) (timer : Option Word) : Mesh :=
  { port := .mp0, request := request1 0 .inEngine, stallLimit := 10, epoch := 1, binding := b
    centre := b.slot.map fun _ => (504, 504), cursor := 0, epochChanged := false
    nodes := 0, saturated := 0, flagged := 0, unit := ⟨[1, 2, 3, 4], false, 0, false⟩, stallTimer := timer }

/-- The engine computes a mesh of MP0, in its request's slot 0. -/
def meshing (b : Binding) (timer : Option Word) (s : State) : State :=
  let s := ported [request1 0 .inEngine] s
  { s with me := { s.me with mesh := some (mesh1 b timer) }, store := { s.store with boundSlot := b.slot } }

/-- The receiver is inside a frame and holds these bytes. -/
def inFrame (bytes : List Byte) : State :=
  { live with llr := { LinkReceiver.reset with rx := .inFrame, frame := bytes, byteTimer := some 20 } }

def idleLink : State := { live with llr := { LinkReceiver.reset with rx := .idle } }

/-- The byte that brings the sum of a frame's bytes to 0. -/
def check (bytes : List Byte) : Byte := 0 - bytes.foldl (· + ·) 0


/-! ### Ill-formed terms -/

theorem test_runt_of_no_bits_is_ill_formed : (Instr.linkRunt 0).wellFormed = false := by decide
theorem test_runt_of_eight_bits_is_ill_formed : (Instr.linkRunt 8).wellFormed = false := by decide
theorem test_write_to_flags_is_not_ignored : (Instr.itemWriteIgnored 0x08 1).wellFormed = false := by decide
theorem test_write_to_select_is_not_ignored : (Instr.itemWriteIgnored 0x09 1).wellFormed = false := by decide
theorem test_write_to_data_is_not_ignored : (Instr.itemWriteIgnored 0x0A 1).wellFormed = false := by decide
theorem test_ill_formed_terms_are_refused :
    exec (.linkRunt 0) live = .refused .illFormed ∧ exec (.linkRunt 8) live = .refused .illFormed
      ∧ exec (.itemWriteIgnored 0x09 1) live = .refused .illFormed := ⟨rfl, rfl, rfl⟩

/-! ### Examples of the spec -/

/-- Section 1.8: the coefficients of the worked node. -/
def exampleCoeffs : RowCoeffs := ⟨-65536, 16384, 0, 1024, 0, -1024, 0, 0⟩

/-- Section 1.8: Δ of green (−590, −295), red (−559, −279) and blue (−621, −311). -/
theorem test_node_example :
    evalNode true 65536 exampleCoeffs (2 ^ 20) 32768 16384
      = ([nodeWord (-590) (-295), nodeWord (-559) (-279), nodeWord (-621) (-311)], false) := by decide

/-- Section 1.8: with a fill scale of 1,081,344 the node's green displacement is (416, 208). -/
theorem test_fill_example :
    evalNode false 65536 exampleCoeffs 1081344 32768 16384 = ([nodeWord 416 208], false) := by decide

/-- Section 1.8: a displacement clamps at 32,767 and marks the node. -/
theorem test_displacement_clamps :
    evalNode false 32768 ⟨131072, 0, 0, 0, 0, 0, 0, 0⟩ (2 ^ 20) 65544 (-49144) = ([nodeWord 32767 (-24572)], true) := by
  decide

/-- Chapter 3: SYNC and a POSITION frame while no lens is on record: the link is fresh, the report ignored. -/
theorem test_link_frame :
    let body : List Byte := [0x26, 6, 0x05, 0x78, 0x03, 0x84, 0, 120]
    let s := afterAll live (.linkByte 0xA7 :: (body ++ [check body]).map .linkByte)
    s.llr.rx = .idle ∧ s.llr.expected = some 7 ∧ s.llr.good = 1 ∧ s.llr.fresh = true ∧ s.lst.ignored = 1 := by decide

/-- R52: a LEN above 15 is a check error at once. -/
theorem test_len_of_sixteen_is_a_check_error :
    (after (.linkByte 16) (inFrame [0x10])).llr.checkErrors = 1 ∧ (after (.linkByte 15) (inFrame [0x10])).llr.rx = .inFrame := by
  decide

/-- R101: the eighth strobe period locks at the average of the eight. -/
theorem test_eighth_period_locks :
    ((Lock.unlocked ⟨40000, 7, 280100⟩).step (some 40000) 0).1 = .locked 40012 80024 := by decide

/-- R107, R16: exposure and fixed fill are clamped when a request is taken. -/
theorem test_request_fields_clamp :
    let f := { fields1 with exposure := 1000001, fillMode := .fixed, fixedFill := 0xFFFFFFFF }
    f.clamped.exposure = 1000000 ∧ f.clamped.fixedFill = 524288 ∧ f.fillClamps = true := by decide

/-- R4: 6000 columns at a step of 128 are 48 nodes. -/
theorem test_grid_count : gridCount 6000 3 = 48 ∧ gridCount 4000 3 = 33 ∧ gridCount 4096 0 = 257 := by decide

/-- R193: a record's fields stand where the layout puts them. -/
theorem test_record_layout :
    let f := RequestFields.ofWords [0x22070005, 0xA1D00015, 0x00010002, 0x00400041, 0xFFFF04E2, 7, 8, 9]
    f.tag = 0x2207 ∧ f.frame = 5 ∧ f.expectedGen = 0xA1 ∧ f.stepCode = 3 ∧ f.fillMode = .unity ∧ f.latest = true
      ∧ f.requireProfile = false ∧ f.strictGen = true ∧ f.waitCover = false ∧ f.rgb = true
      ∧ f.x0 = 1 ∧ f.y0 = 2 ∧ f.width = 64 ∧ f.height = 65 ∧ f.lineTime = 1250 ∧ f.exposure = 7 ∧ f.fixedFill = 8 := by
  decide

/-- R164, R195: STATUS with INIT_BUSY set after a POWER_ON reset, and after a PIN reset. -/
theorem test_status_after_reset :
    State.reset.statusWord = 0x80000000#32 ∧ (after .pinReset live).statusWord = 0xA0000000#32 := by decide

/-- R196: a command's response: SET_SOURCE names the source before, the source, its freshness. -/
theorem test_set_source_answer :
    answer (after .setSource (commanded [0, 5, 0x13, 0, 1] live)) = [0, 0, 0, 1, 0]
      ∧ (after .setSource (commanded [0, 5, 0x13, 0, 1] live)).lst.source = .posted := by decide

/-- R168: held in a reset the part takes no input, drives no MISO and raises no ready; the release writes the cause
and the RESYNCs. -/
theorem test_held_reset :
    let released := { held with resetPhases := [.finish] }
    afterAll held [.linkByte 0xA7, .strobe .mp0, .mailboxFlags 1, .eventPop .whole] = held
      ∧ held.drivesMiso true = false ∧ live.drivesMiso true = true ∧ held.requestReady .mp0 = false
      ∧ held.cp.resetCause = .powerOn ∧ (after .pinReset released).cp.resetCause = .pin
      ∧ held.meshData .mp0 = none ∧ (after .pinReset released).meshData .mp0 = some 0x54000000#32 := by decide

/-- R162, R192: a read drives 0 in its first byte, then the value most significant byte first, then 0; MAILBOX_DATA
goes on from byte to byte. -/
theorem test_bytes_read :
    let s := { live with time := 0x12345678 }
    s.transactionOut (fun _ => 0) [0x82, 9, 9, 9, 9, 9] = [0, 0x12, 0x34, 0x56, 0x78, 0]
      ∧ (after .setSource (commanded [0, 5, 0x13, 0, 1] { live with cp := { live.cp with select := .response } })).readOut
          0x0A#7 4 = [0, 7, 0, 0] := by decide

/-- R157: an expiry at the moment at which a word taken has made room abandons nothing. -/
theorem test_unit_that_fits_is_not_abandoned :
    after .stallExpiry (meshing unbound (some 0) live) = meshing unbound (some 0) live := by decide

/-- R195: a whole write transaction to MAILBOX_SELECT, one cut short, and reads of EVENT_POP. -/
theorem test_transactions :
    transactionCommands [0x09, 0x80, 0, 0, 4] = [.mailboxSelect 0x80000004] ∧ transactionCommands [0x09, 0x80] = []
      ∧ transactionCommands [0x83, 0, 0, 0, 0] = [.eventPop .whole]
      ∧ transactionCommands [0x83, 0] = [.eventPop .address, .eventPop .cut] := by decide

/-- R197: the lengths of the responses that report the whole part. -/
theorem test_report_lengths :
    live.statusDetail.length = 241
      ∧ (live.config.toBytes ++ live.ports.mp0.config.toBytes ++ live.ports.mp1.config.toBytes).length = 107 := by decide +kernel

/-- R152, R153: a grant places the header and forms row 0; UNIT_PLACE places it and reaches row 1. -/
theorem test_grant_and_first_row :
    let s := after .grant (ported [request1 0 .ready] live)
    let t := after .unitPlace s
    (s.port .mp0).fifo.length = 4 ∧ (t.port .mp0).fifo.length = 12 ∧ t.me.mesh.map (·.cursor) = some 1 := by decide

/-! ### Witnesses: arithmetic and time -/

/-- The newest t_last and time 0 are unordered. -/
theorem witness_TimesCompareByTheirDifference :
    let s := { live with lst := { tracker1 with timeline := [{ entry1 with tLast := 0x80000000 }] } }
    s.lst.timeline.getLast? = some { entry1 with tLast := 0x80000000 }
      ∧ ((0x80000000 : Word) - 0).toNat = 2147483648 := by decide

theorem witness_RowCoefficientsAreWeightedSums :
    (0 : Nat) ≤ 4096 ∧ bilinear 0 4096 1 2 3 4 = 3 ∧ (∀ v ∈ [-2 ^ 23, 2 ^ 23 - 1, 524288, (2097152 : Int)], -2 ^ 23 ≤ v ∧ v < 2 ^ 23)
      ∧ (∀ v ∈ [524288, 524289, 2097151, (2097152 : Int)], 524288 ≤ v ∧ v ≤ 2097152)
      ∧ (locate [100] 7).next = 0 ∧ (locate [100, 200] 150).next = 1 := by decide

theorem witness_ValueIsLocatedInItsInterval :
    ∀ nodes ∈ ([[100], [100, 200], [0, 1024, 4095]] : List (List Nat)), nodes ≠ [] ∧ nodes.Pairwise (· < ·) := by decide

theorem witness_RadiusIsFlooredThenClamped :
    (256 : Int) ≤ 256 ∧ (131071 : Int) ≤ 131071 ∧ (rho 511 0 256).marked = false ∧ (rho 512 0 256).marked = true := by
  decide +kernel

theorem witness_NodeIsEvaluatedStageByStage :
    evalNode true 256 exampleCoeffs (2 ^ 20) 0 0 = ([0, 0, 0], false) ∧ nodeWord (-32768) 32767 = 0x80007FFF#32 := by
  decide

def entry2 : Entry := { entry1 with tFirst := 22, tLast := 40, focal := 110 }

theorem witness_InterpolationStaysBetweenItsEntries :
    entry1.converter = entry2.converter ∧ later 21 entry1.tLast = true ∧ earlier 21 entry2.tFirst = true
      ∧ earlier entry1.tLast entry2.tFirst = true := by decide

/-- After the newest, before the oldest, inside an entry, and between two. -/
theorem witness_InstantIsResolvedByTheTests :
    [entry1, entry2].head? = some entry1 ∧ [entry1, entry2].getLast? = some entry2
      ∧ later 41 entry2.tLast = true
      ∧ (later 9 entry2.tLast = false ∧ earlier 9 entry1.tFirst = true)
      ∧ (later 10 entry2.tLast = false ∧ earlier 10 entry1.tFirst = false)
      ∧ (later 21 entry2.tLast = false ∧ earlier 21 entry1.tFirst = false)
      ∧ (later 40 entry2.tLast = false ∧ earlier 40 entry1.tFirst = false) := by decide

/-! ### Witnesses: resets -/

theorem witness_PowerOnAndPinResetLeaveTheResetState :
    (after .powerOn live).cp.resetCause = .powerOn ∧ (after .pinReset live).cp.resetCause = .pin
      ∧ live.resetPhases = [] ∧ live.cp.hold ≠ .powerOn ∧ held.cp.hold = .pin
      ∧ (after .powerOn { live with resetPhases := [.start] }).cp.hold = .powerOn
      ∧ (Instr.linkByte 0xA7).wellFormed = true ∧ Instr.linkByte 0xA7 ≠ .powerOn ∧ Instr.linkByte 0xA7 ≠ .pinReset := by
  decide

theorem witness_InitBusyClearPostsResetDone : 
    (State.reset.cp.hold = .released ∧ State.reset.cp.initBusy = true) ∧ live.cp.initBusy = false
      ∧ held.cp.hold ≠ .released := by decide

theorem witness_ResetCoreLeavesTheCoreResetState :
    (commanded [0, 4, 4, 0] live).handed 0x04 4
      ∧ (commanded [0, 4, 4, 0] { live with cp := { live.cp with latch := some ⟨.summary, 1, true⟩ } }).handed 0x04 4 := by
  decide

/-- PORT_RESET of MP0. -/
def portReset0 (s : State) : State := commanded [0, 5, 7, 0, 0] s

/-- The engine computes a mesh bound to slot 3 while `op` is pending. -/
def deferredOp (op : StoreOp) (staging : Staging) : State :=
  let s := meshing bound3 none (stocked live)
  { s with store := { s.store with pendingOp := some op, staging := staging } }

theorem witness_PortResetLeavesThePortResetState :
    let idle := portReset0 (ported [request1 0 .ready] live)
    let busy := portReset0 (meshing bound3 none (stocked live))
    let commit := portReset0 (deferredOp (.commit 3) (.committing staged1))
    let delete := portReset0 (deferredOp (.delete 3) .closed)
    (∀ s ∈ [idle, busy, commit, delete], s.handed 0x07 5 ∧ s.arg 4 1 = portCode .mp0)
      ∧ idle.inProgress .mp0 = false
      ∧ (busy.inProgress .mp0 = true ∧ busy.store.pendingOp = none)
      ∧ (commit.inProgress .mp0 = true ∧ commit.store.pendingOp = some (.commit 3) ∧ commit.store.boundSlot = some 3
          ∧ commit.store.staging = .committing staged1)
      ∧ (delete.inProgress .mp0 = true ∧ delete.store.pendingOp = some (.delete 3) ∧ delete.store.boundSlot = some 3)
      ∧ ((commanded [0, 5, 7, 0, 2] live).handed 0x07 5 ∧ (commanded [0, 5, 7, 0, 2] live).arg 4 1 = 2) := by decide

/-! ### Witnesses: lens link -/

theorem witness_LinkByteMovesTheReceiver :
    State.reset.cp.initBusy = true
      ∧ (live.cp.initBusy = false ∧ live.llr.rx = .hunt)
      ∧ (idleLink.cp.initBusy = false ∧ idleLink.llr.rx = .idle)
      ∧ (∀ bytes ∈ ([[], [0x10], [0x10, 1], [0x10, 15, 0]] : List (List Byte)),
          (inFrame bytes).cp.initBusy = false ∧ (inFrame bytes).llr.rx = .inFrame ∧ (inFrame bytes).llr.frame = bytes)
      ∧ (15#8).toNat ≤ 15 ∧ ([] : List Byte).length ≠ (1#8).toNat ∧ [0#8].length ≠ (15#8).toNat := by decide

/-- One frame of each valid type, an ATTACH whose focal range is empty, and a type that does not exist. -/
def wholeFrames : List (List Byte) :=
  [ [0x10, 15, 0, 0, 0, 7, 0, 1, 0, 1, 0, 1, 3, 0, 0, 0xFF, 0xFF], [0x20, 6, 0, 1, 0, 1, 0, 1], [0x30, 3, 2, 0, 0],
    [0x40, 2, 0, 0], [0x50, 2, 0, 0], [0x10, 15, 0, 0, 0, 7, 0, 1, 0, 2, 0, 1, 3, 0, 0, 0xFF, 0xFF], [0x60, 0] ]

theorem witness_IntactFrameIsCheckedInSequence :
    ∀ bytes ∈ wholeFrames,
      (inFrame bytes).cp.initBusy = false ∧ (inFrame bytes).llr.rx = .inFrame
        ∧ (inFrame bytes).llr.frame = bytes.getD 0 0 :: bytes.getD 1 0 :: bytes.drop 2
        ∧ (bytes.drop 2).length = (bytes.getD 1 0).toNat
        ∧ (bytes.getD 0 0 :: bytes.getD 1 0 :: (bytes.drop 2 ++ [check bytes])).foldl (· + ·) 0 = 0 := by decide

/-- An attach, no lens, and an attached lens of either source, the return due and not due. -/
theorem witness_IntactFrameIsCheckedInSequence_reports :
    (100 : Half).toNat ≤ (100 : Half).toNat ∧ live.attached = false
      ∧ (∀ source ∈ [Feed.link, .posted],
          let s := { live with lst := { tracker1 with source := source } }
          s.lst.record = some record1 ∧ record1.presence = .attached ∧ s.lst.timeline.getLast? = some entry1
            ∧ s.lst.source = source ∧ s.config.autoReturn = false)
      ∧ (let s := { live with
          lst := { tracker1 with source := .posted }, config := { ConfigSet.reset with autoReturn := true } }
         s.config.autoReturn = true ∧ s.lst.source = .posted
          ∧ (s.linkReport (.heartbeat 21) 3).lst.source = .link
          ∧ (s.linkReport (.heartbeat 21) 3).lst.timeline = [{ entry1 with tLast := 21 }]) := by decide

/-- Both freshness timers as `link` and `posted`, failover enabled. -/
def timers (link posted : Option Word) (time : Word) (postedFresh : Bool) : State :=
  { live with
    time := time
    config := { ConfigSet.reset with autoFailover := true }
    llr := { LinkReceiver.reset with freshTimer := link }
    lst := { Tracker.reset with postedTimer := posted, postedFresh := postedFresh } }

/-- The timer's own time, and the last moment at which it counts as reached. -/
theorem witness_FreshnessExpiryMakesTheFeedStale :
    ((timers (some 100) (some 100) 100 true).llr.freshTimer = some 100
        ∧ (timers (some 100) (some 100) 100 true).lst.postedTimer = some 100)
      ∧ ((100 : Word) - 100).toNat < 2 ^ 31 ∧ ((0x80000063 : Word) - 100).toNat < 2 ^ 31
      ∧ 2 ^ 31 ≤ ((0x80000064 : Word) - 100).toNat
      ∧ live.llr.freshTimer = none ∧ live.lst.postedTimer = none := by decide

theorem witness_CheckErrorDiscardsTheFrame :
    (idleLink.cp.initBusy = false ∧ idleLink.llr.rx = .idle ∧ (0x33 : Byte) ≠ 0xA7)
      ∧ ((inFrame [0x10]).llr.rx = .inFrame ∧ (inFrame [0x10]).llr.frame.length = 1 ∧ 16 ≤ (16 : Byte).toNat)
      ∧ ((inFrame [0x10, 0]).llr.frame = 0x10 :: 0 :: [] ∧ ([0x10, 0, 0x33] : List Byte).foldl (· + ·) 0 ≠ 0)
      ∧ (let s := { inFrame [] with time := 20 }
         s.llr.rx = .inFrame ∧ s.llr.byteTimer = some 20 ∧ (s.time - 20).toNat < 2 ^ 31)
      ∧ 2 ^ 31 ≤ ((0x80000014 : Word) - 20).toNat
      ∧ (State.reset.cp.initBusy = true ∧ live.llr.rx = .hunt ∧ live.llr.byteTimer = none) := by decide

/-! ### Witnesses: lens state tracker -/

/-- At the newest t_last, unordered with it, a repeat, and a change. -/
theorem witness_SampleIsLateFoldedOrAppended :
    (lensOn live).lst.record = some record1 ∧ record1.focalMin.toNat ≤ record1.focalMax.toNat
      ∧ (lensOn live).lst.timeline = [] ++ [entry1]
      ∧ ((20 : Word) - entry1.tLast).toNat = 0 ∧ 2 ^ 31 ≤ ((0x80000014 : Word) - entry1.tLast).toNat
      ∧ ((lensOn live).enterSample ⟨21, 200, 5, 0, .posted⟩).2 = (.extended, true)
      ∧ ((lensOn live).enterSample ⟨21, 100, 6, 0, .posted⟩).2 = (.appended, false) := by decide

/-- A cover time at the newest t_last, one after it on a live tracker and on a silent one. -/
theorem witness_CoverageTestEndsTheWaits :
    let silent := ported [covering1 0 20, covering1 1 21] (lensOn live)
    let fed := { silent with llr := { silent.llr with fresh := true } }
    (covering1 0 20).state = .pendingCover ∧ (covering1 0 20).coverTime = some 20
      ∧ silent.lst.timeline.getLast? = some entry1 ∧ earlier entry1.tLast 20 = false ∧ earlier entry1.tLast 21 = true
      ∧ silent.trackerState = .silent ∧ fed.trackerState = .live
      ∧ live.lst.record = none ∧ silent.lst.record = some record1 ∧ record1.presence = .attached
      ∧ ({ record1 with presence := .detached } : LensRecord).presence = .detached
      ∧ silent.lst.source = .link ∧ ({ tracker1 with source := .posted } : Tracker).source = .posted := by decide

/-- The posted feed fresh; stale; stale with the failover due. -/
theorem witness_PostAttachFillsTheRecord_touch :
    (timers none (some 1) 0 true).lst.postedFresh = true
      ∧ (live.lst.postedFresh = false ∧ live.config.autoFailover = false)
      ∧ (let s := timers none none 0 false
         s.lst.postedFresh = false ∧ s.config.autoFailover = true ∧ s.lst.source = .link ∧ s.llr.fresh = false
          ∧ s.touchPosted.lst.source = .posted) := by decide

def attachBytes (lo hi converter focusHi focusLo : Byte) : List Byte :=
  [0, 21, 0x10, 0, 0, 0, 0, 7, 0, 1, 0, lo, 0, hi, converter, 0, 5, focusHi, focusLo, 0, 9]

theorem witness_PostAttachFillsTheRecord :
    let s := commanded (attachBytes 1 1 3 0x0F 0xFF) live
    (s.handed 0x10 21 ∧ s.arg16 10 = 1 ∧ s.arg16 12 = 1 ∧ s.arg16 15 = 5 ∧ s.arg 14 1 ≤ 3 ∧ s.arg 17 2 ≤ 4095)
      ∧ (let t := commanded (attachBytes 0 1 3 0 0) live; t.handed 0x10 21 ∧ t.arg 10 2 = 0)
      ∧ (let t := commanded (attachBytes 2 1 3 0 0) live; t.handed 0x10 21 ∧ t.arg 12 2 < t.arg 10 2)
      ∧ (let t := commanded (attachBytes 1 1 4 0 0) live; t.handed 0x10 21 ∧ t.arg 14 1 = 4)
      ∧ (let t := commanded (attachBytes 1 1 3 0x10 0) live; t.handed 0x10 21 ∧ t.arg 17 2 = 4096) := by decide

/-- POST_POSITION with these focus bytes and this converter code. -/
def positionAt (hi lo converter : Byte) (s : State) : State :=
  commanded [0, 11, 0x11, 0, 0, 100, hi, lo, converter, 0, 1] s

def onPosted (s : State) : State := { s with lst := { s.lst with source := .posted } }

theorem witness_PostPositionEntersASample :
    (∀ s ∈ [live, lensOn live, onPosted (lensOn live)],
      (positionAt 0x0F 0xFF 3 s).handed 0x11 11 ∧ (positionAt 0x0F 0xFF 3 s).arg 6 2 ≤ 4095
        ∧ (positionAt 0x0F 0xFF 3 s).arg 8 1 ≤ 3)
      ∧ live.attached = false
      ∧ ((lensOn live).lst.record = some record1 ∧ record1.presence = .attached ∧ (lensOn live).lst.source = .link
          ∧ (lensOn live).config.autoFailover = false)
      ∧ (onPosted (lensOn live)).lst.source = .posted
      ∧ ((positionAt 0x10 0 0 live).handed 0x11 11 ∧ (positionAt 0x10 0 0 live).arg 6 2 = 4096)
      ∧ ((positionAt 0 0 4 live).handed 0x11 11 ∧ (positionAt 0 0 4 live).arg 8 1 = 4) := by decide

theorem witness_PostDetachKeepsAllButThePresence :
    (∀ s ∈ [live, lensOn live], (commanded [0, 6, 0x12, 0, 0, 0] s).handed 0x12 6)
      ∧ live.attached = false ∧ (lensOn live).lst.record = some record1 ∧ record1.presence = .attached := by decide

/-! ### Witnesses: strobes -/

/-- MP0's strobe unit after a strobe at time 0, at `now`. -/
def strobing (lock : Lock) (now : Word) : State :=
  { live with time := now, tsu := ⟨⟨1, [⟨1, 0, false⟩], some 0, lock⟩, StrobeUnit.reset⟩ }

/-- Periods at both ends of the range and past them, at both ends of a run's and of a lock's tolerance. -/
theorem witness_StrobeIsCountedRecordedAndJudged :
    State.reset.cp.initBusy = true ∧ (live.cp.initBusy = false ∧ (live.tsu.get .mp0).previous = none)
      ∧ ((strobing (.unlocked Run.empty) 1000).tsu.get .mp0).previous = some 0
      ∧ (timeDiff 0 999 = 999 ∧ timeDiff 0 1000 = 1000 ∧ timeDiff 0 2000000 = 2000000 ∧ timeDiff 0 2000001 = 2000001)
      ∧ (|(65 : Int) * 1000 - 64000| * 64 ≤ 64000 ∧ (64000 : Int) < |65001 - 64000| * 64)
      ∧ (|(9000 : Int) - 8000| * 8 ≤ 8000 ∧ (8000 : Int) < |9001 - 8000| * 8)
      ∧ (let s := strobing (.locked 8000 100) 100
         (s.tsu.get .mp0).lock = .locked 8000 100 ∧ (s.time - 100).toNat < 2 ^ 31)
      ∧ 2 ^ 31 ≤ ((0x80000064 : Word) - 100).toNat
      ∧ (live.tsu.get .mp0).lock = .unlocked ⟨0, 0, 0⟩ := by decide

/-- MP0 strobes for itself, with this policy and these slots, `used` refuse records waiting. -/
def strobePort (enabled : Bool) (mode : TriggerMode) (policy : FullPolicy) (slots : List Request) (used : Nat) : State :=
  (sized live).setPort .mp0
    { port1 mode policy slots with
      config := { config1 mode policy with enabled := enabled }
      replies := List.replicate used ⟨.mode, 0, 0, 0⟩ }

theorem witness_StrobeResolvesAndMakesRequests :
    (waiting1 0).state = .pendingFrame
      ∧ ((strobePort false .strobe .dropNew [] 0).port .mp0).config.enabled = false
      ∧ (let q := (strobePort true .strobe .dropNew [] 8).port .mp0
         q.config.enabled = true ∧ q.config.mode ≠ .command ∧ 8 ≤ q.placesUsed)
      ∧ (let q := (strobePort true .strobeOnce .dropNew [request1 0 .ready] 6).port .mp0
         q.placesUsed < 8 ∧ (∀ r ∈ q.slots, r.slot ≠ 1) ∧ ∀ j < (1 : Fin 4), ∃ r ∈ q.slots, r.slot = j)
      ∧ (∀ policy ∈ [FullPolicy.dropNew, .replaceOldest],
          let q := (strobePort true .strobe policy allSlots 3).port .mp0
          q.placesUsed < 8 ∧ (∀ k : Fin 4, ∃ r ∈ q.slots, r.slot = k) ∧ q.config.policy = policy
            ∧ (q.slots.find? fun x => x.state != .inEngine) = some (request1 0 .ready)) := by decide

/-- A WAIT_COVER request whose last row is at the newest t_last; one after it, the tracker live and silent. -/
theorem witness_StrobeResolvesAndMakesRequests_cover :
    let r := { waiting1 0 with fields := { fields1 with waitCover := true } }
    let silent := sized (lensOn live)
    let fed := { silent with llr := { silent.llr with fresh := true } }
    r.fields.waitCover = true ∧ (waiting1 0).fields.waitCover = false
      ∧ silent.lst.timeline.getLast? = some entry1 ∧ earlier entry1.tLast 20 = false ∧ earlier entry1.tLast 21 = true
      ∧ silent.trackerState = .silent ∧ fed.trackerState = .live
      ∧ (resolveFrame silent ⟨1, 20, false⟩ r).coverIncomplete = false
      ∧ (resolveFrame fed ⟨1, 21, false⟩ r).state = .pendingCover
      ∧ (resolveFrame silent ⟨1, 21, false⟩ r).coverIncomplete = true := by decide

/-! ### Witnesses: mesh ports -/

/-- MP0 of an array of this size holds seven words of a record that starts with these four. -/
def judging (enabled : Bool) (mode : TriggerMode) (width : Half) (slots : List Request) (words : List Word)
    (table : List StrobeRecord) (counter : Half) : State :=
  let s := { live with
    config := { ConfigSet.reset with width := width, height := 64 }
    tsu := ⟨⟨counter, table, none, .unlocked Run.empty⟩, StrobeUnit.reset⟩ }
  s.setPort .mp0
    { port1 mode .dropNew slots with
      config := { config1 mode .dropNew with enabled := enabled }, gathered := words ++ [0, 0, 0] }

/-- The fields of the record that a word 0 completes. -/
def judged (s : State) : RequestFields := RequestFields.ofWords ((s.port .mp0).gathered ++ [0])

def threeSlots : List Request := [request1 0 .ready, request1 1 .ready, request1 2 .ready]

/-- LATEST, a frame of the table, and the first and the last frame ahead; a window that fills the array. -/
theorem witness_RequestRecordIsAccepted :
    let latest := judging true .command 64 [] [0x00070000, 0x10, 0, 0x00400040] [⟨5, 9, false⟩] 5
    let kept := judging true .command 64 threeSlots [0x00070005, 0, 0, 0x00400040] [⟨5, 9, false⟩] 5
    let next := judging true .command 64 [] [0x00070006, 0, 0, 0x00400040] [⟨5, 9, false⟩] 5
    let eighth := judging true .command 64 [] [0x0007000D, 0, 0, 0x00400040] [⟨5, 9, false⟩] 5
    (∀ s ∈ [latest, kept, next, eighth],
      s.cp.initBusy = false ∧ (s.port .mp0).gathered.length = 7 ∧ (s.port .mp0).config.enabled = true
        ∧ (s.port .mp0).config.mode = .command ∧ (judged s).width ≠ 0 ∧ (judged s).height ≠ 0
        ∧ (judged s).x0.toNat + (judged s).width.toNat ≤ s.config.width.toNat
        ∧ (judged s).y0.toNat + (judged s).height.toNat ≤ s.config.height.toNat ∧ (judged s).stepCode = 0)
      ∧ (64 + 16 - 1) / 16 + 1 ≤ 193 ∧ ((64 + 16 - 1) / 16 + 1) * ((64 + 16 - 1) / 16 + 1) ≤ 16384
      ∧ (∀ r ∈ threeSlots, r.slot ≠ 3) ∧ (∀ j < (3 : Fin 4), ∃ r ∈ threeSlots, r.slot = j)
      ∧ ((judged latest).latest = true ∧ (latest.tsu.get .mp0).table.getLast? = some ⟨5, 9, false⟩)
      ∧ ((judged kept).latest = false
          ∧ ((kept.tsu.get .mp0).table.find? fun x => x.frame == (judged kept).frame) = some ⟨5, 9, false⟩)
      ∧ ((judged next).latest = false ∧ ((judged next).frame - (next.tsu.get .mp0).counter).toNat = 1)
      ∧ ((judged eighth).latest = false ∧ ((judged eighth).frame - (eighth.tsu.get .mp0).counter).toNat = 8
          ∧ ∀ r ∈ (eighth.tsu.get .mp0).table, r.frame ≠ (judged eighth).frame) := by decide

/-- One record for each refusal, at the first value that fails. -/
theorem witness_RequestRecordIsRefusedByTheFirstFailingCheck :
    let fits : List Word := [0x00070000, 0, 0, 0x00400040]
    (∀ s ∈ [judging false .command 64 [] fits [] 5, judging true .strobe 64 [] fits [] 5,
        judging true .command 64 [] [0, 0, 0x00010000, 0x00400040] [] 5,
        judging true .command 8192 [] [0, 0, 0, 0x10010040] [] 5,
        judging true .command 64 allSlots fits [] 5, judging true .command 64 [] fits [] 0],
      s.cp.initBusy = false ∧ (s.port .mp0).gathered.length = 7)
      ∧ (let s := judging true .command 64 [] [0, 0, 0x00010000, 0x00400040] [] 5
         s.config.width.toNat < (judged s).x0.toNat + (judged s).width.toNat)
      ∧ (let s := judging true .command 8192 [] [0, 0, 0, 0x10010040] [] 5
         257 < ((judged s).width.toNat + 16 - 1) / 16 + 1)
      ∧ (∀ k : Fin 4, ∃ r ∈ allSlots, r.slot = k)
      ∧ (let s := judging true .command 64 [] fits [] 0
         (judged s).latest = false ∧ ((judged s).frame - (s.tsu.get .mp0).counter).toNat = 0)
      ∧ (let s := judging true .command 64 [] [0x00070009, 0, 0, 0x00400040] [] 0
         (judged s).latest = false ∧ ((judged s).frame - (s.tsu.get .mp0).counter).toNat = 9)
      ∧ (judged (judging true .command 64 [] [0x00070000, 0x10, 0, 0x00400040] [] 0)).latest = true
      ∧ ((request1 0 .ready).strobe = some ⟨1, 100⟩ ∧ (waiting1 0).strobe = none ∧ (waiting1 0).fields.latest = true
          ∧ ({ fields1 with latest := false } : RequestFields).latest = false) := by decide

theorem witness_WaitTimerRefusesOrEndsTheWait :
    (let s := ported [request1 0 .ready, waiting1 1, covering1 2 9] live
     (s.port .mp0).slots = [request1 0 .ready] ++ waiting1 1 :: [covering1 2 9]
        ∧ (s.port .mp0).slots = [request1 0 .ready, waiting1 1] ++ covering1 2 9 :: []
        ∧ (s.port .mp0).slots = [] ++ request1 0 .ready :: [waiting1 1, covering1 2 9]
        ∧ (s.time - 0).toNat < 2 ^ 31)
      ∧ 2 ^ 31 ≤ ((0x80000000 : Word) - 0).toNat
      ∧ (∀ x ∈ [request1 0 .ready] ++ [covering1 2 9], x.slot ≠ (waiting1 1).slot)
      ∧ (waiting1 1).waitTimer = some 0 ∧ (waiting1 1).state = .pendingFrame
      ∧ (covering1 2 9).waitTimer = some 0 ∧ (covering1 2 9).state = .pendingCover
      ∧ (request1 0 .ready).waitTimer = none := by decide

/-- MP0 with words of a record, refuse records and a FIFO of this length. -/
def queued (gathered : List Word) (replies fifo : Nat) : State :=
  live.setPort .mp0
    { MeshPort.reset (List.replicate fifo 0) with
      gathered := gathered, replies := List.replicate replies ⟨.mode, 0, 0, 0⟩ }

theorem witness_WordsAndRefuseRecordsMoveAsTheRoomAllows :
    (live.cp.initBusy = false ∧ State.reset.cp.initBusy = true)
      ∧ (((queued [] 7 0).port .mp0).gathered = [] ∧ ((queued [] 7 0).port .mp0).placesUsed < 8)
      ∧ (((queued [] 8 0).port .mp0).gathered = [] ∧ 8 ≤ ((queued [] 8 0).port .mp0).placesUsed)
      ∧ (((queued [0, 0, 0, 0, 0, 0] 8 0).port .mp0).gathered.length = 6)
      ∧ (((queued [] 1 1).port .mp0).fifo = [0] ∧ ((queued [] 1 0).port .mp0).fifo = [])
      ∧ ((queued [] 1 1019).inProgress .mp0 = false ∧ ((queued [] 1 1019).port .mp0).fifo.length + 2 ≤ 1021
          ∧ ((queued [] 1 1019).port .mp0).replies = [⟨.mode, 0, 0, 0⟩])
      ∧ 1020 ≤ ((queued [] 1 1020).port .mp0).fifo.length := by decide +kernel

/-! ### Witnesses: mesh engine -/

/-- Both ports offer, MP1 having been granted `count` times in a row. -/
def bothOffer (priority : ArbiterPriority) (count : Nat) : State :=
  let s := ported [request1 0 .ready] live
  { s with
    config := { s.config with priority := priority }
    ports := ⟨s.ports.mp0, s.ports.mp0⟩
    me := { s.me with consecutive := count } }

theorem witness_ArbiterGrantsByPriority :
    (ported [request1 0 .ready] live).grantPort = some .mp0
      ∧ (live.me.mesh = none ∧ live.me.runState ≠ .hold ∧ (live.port .mp0).slots = [])
      ∧ (let s := bothOffer .none 0
         (∀ p ∈ [Port.mp0, .mp1],
            (s.port p).slots = [request1 0 .ready] ∧ (s.port p).fifo.length ≤ 1021)
          ∧ s.me.mesh = none ∧ s.me.runState = .run ∧ s.me.lastGranted = .mp1)
      ∧ ((bothOffer .mp0 4).config.priority = .mp0 ∧ (bothOffer .mp0 4).me.lastGranted ≠ .mp0)
      ∧ (3 < (bothOffer .mp1 3).config.consecutiveLimit ∧ (bothOffer .mp1 4).config.consecutiveLimit ≤ 4) := by decide

theorem witness_BindChoosesTheFirstCaseThatApplies :
    let s := lensOn (stocked live)
    let base := { s with lst := { s.lst with record := some { record1 with converter := 1 } } }
    let named := { s with lst := { s.lst with override := some 3 } }
    (s.slotWithKey 7 0 = some 3 ∧ s.slotWithKey 7 1 = none ∧ s.lst.override = none ∧ s.lst.record = some record1)
      ∧ (base.slotWithKey 7 1 = none ∧ base.slotWithKey 7 0 = some 3)
      ∧ ((lensOn live).slotWithKey 7 0 = none ∧ live.lst.record = none)
      ∧ (named.lst.override = some 3 ∧ named.profile? 3 = some profile1) := by decide

theorem witness_RowIsDecidedWhenItIsReached :
    { mesh1 bound3 none with epochChanged := true }.epochChanged = true
      ∧ ((mesh1 unbound none).epochChanged = false ∧ (mesh1 unbound none).binding.slot = none)
      ∧ ((mesh1 bound3 none).epochChanged = false ∧ (mesh1 bound3 none).binding.slot = some 3
          ∧ (stocked live).profile? 3 = some profile1) := by decide

/-- MP0's FIFO holds `n` words while the engine holds a mesh. -/
def crowded (n : Nat) (m : Mesh) : State :=
  let s := meshing unbound none live
  { s.setPort .mp0 { s.port .mp0 with fifo := List.replicate n 0 } with me := { s.me with mesh := some m } }

/-- The last row of mesh1, formed. -/
def lastRow : Mesh := { mesh1 unbound none with cursor := 4, unit := ⟨[1, 2, 3, 0, 0, 0, 0, 0], true, 0, false⟩ }

/-- R28: the commit that a mesh deferred is applied at the release that follows its last row. -/
theorem test_last_row_applies_the_commit :
    let s := deferredOp (.commit 3) (.committing staged1)
    let t := after .unitPlace { s with me := { s.me with mesh := some { lastRow with binding := bound3 } } }
    t.generation 3 = 2 ∧ t.store.pendingOp = none ∧ t.eu.queue = [⟨.profileApplied, 0x0203, 0⟩] := by decide

theorem witness_UnitIsPlacedWholeOnceItFits :
    let s := crowded 1017 (mesh1 unbound none)
    let full := crowded 1018 (mesh1 unbound none)
    let last := crowded 0 lastRow
    (s.me.mesh = some (mesh1 unbound none) ∧ (s.port .mp0).fifo.length + 4 ≤ 1021 ∧ 0 < (mesh1 unbound none).request.nr)
      ∧ (full.me.mesh = some (mesh1 unbound none) ∧ 1021 < (full.port .mp0).fifo.length + 4)
      ∧ (last.me.mesh = some lastRow ∧ (last.port .mp0).fifo.length + lastRow.unit.words.length ≤ 1021
          ∧ lastRow.request.nr ≤ lastRow.cursor + 1 ∧ last.store.pendingOp = none)
      ∧ (deferredOp (.commit 3) (.committing staged1)).store.pendingOp ≠ none := by decide +kernel

/-- MP0 offers a head with these options over a store with a profile for the lens, or without. -/
def offering (fields : RequestFields) (fifo : Nat) (s : State) : State :=
  (sized (lensOn s)).setPort .mp0
    { port1 .command .dropNew [{ request1 0 .ready with fields := fields }] with fifo := List.replicate fifo 0 }

theorem witness_GrantBindsThenPlacesOrRefuses :
    (∀ s ∈ [offering fields1 1017 live, offering { fields1 with strictGen := true, expectedGen := 1 } 1018 (stocked live)],
      s.grantPort = some .mp0 ∧ (s.port .mp0).slots.length = 1 ∧ s.store.pendingOp = none)
      ∧ ((offering fields1 1017 live).bind 0).slot = none
      ∧ ((offering fields1 1018 (stocked live)).bind 0).generation = 1
      ∧ ((resolve [entry1] 5000 (rowTime fields1 64 100 2)).lens.converter = 0 ∧ 1 ≤ (request1 0 .ready).nr)
      ∧ (let s := offering { fields1 with strictGen := true } 0 (stocked live)
         s.grantPort = some .mp0 ∧ (s.bind 0).slot = some 3 ∧ (s.bind 0).generation ≠ 0)
      ∧ (let s := offering { fields1 with requireProfile := true } 0 live
         s.grantPort = some .mp0 ∧ (s.bind 0).slot = none) := by decide +kernel

theorem witness_StallExpiryAbandonsAndReleases :
    (deferredOp (.commit 3) (.committing staged1)).store
        = { (stocked live).store with
            pendingOp := some (.commit 3), boundSlot := some 3, staging := .committing staged1 }
      ∧ (deferredOp (.delete 3) .closed).store.pendingOp = some (.delete 3)
      ∧ (deferredOp (.delete 3) .closed).store.boundSlot = some 3
      ∧ live.store.pendingOp = none
      ∧ (let s := crowded 1018 (mesh1 unbound (some 0))
         s.me.mesh = some (mesh1 unbound (some 0)) ∧ (s.time - 0).toNat < 2 ^ 31 ∧ 1021 < (s.port .mp0).fifo.length + 4)
      ∧ (let s := crowded 1017 (mesh1 unbound (some 0))
         s.me.mesh = some (mesh1 unbound (some 0)) ∧ (s.port .mp0).fifo.length + 4 ≤ 1021)
      ∧ ((crowded 1018 (mesh1 unbound (some 1))).me.mesh = some (mesh1 unbound (some 1))
          ∧ 2 ^ 31 ≤ ((crowded 1018 (mesh1 unbound (some 1))).time - 1).toNat)
      ∧ (meshing unbound none live).me.mesh = some (mesh1 unbound none) := by decide +kernel

/-! ### Witnesses: direct items and mailboxes -/

def event1 : Event := ⟨.lensAttached, 1, 77⟩

/-- One event queued, and a read transaction at this point. -/
def reading (queue : List Event) (latch : Option ReadLatch) : State :=
  { live with eu := { live.eu with queue := queue }, cp := { live.cp with latch := latch } }

theorem witness_EventPopRemovesTheEventItReturned :
    (∀ queue ∈ [[event1], []], ∀ latch ∈ [none, some ⟨.eventPop, 0, false⟩], (reading queue latch).cp.hold = .released)
      ∧ (reading [event1] none).eu.queue = event1 :: [] ∧ (reading [] none).eu.queue = []
      ∧ (reading [event1] (some ⟨.eventPop, 0x00020001, true⟩)).cp.latch = some ⟨.eventPop, 0x00020001, true⟩
      ∧ (reading [] (some ⟨.eventPop, 0, false⟩)).cp.latch = some ⟨.eventPop, 0, false⟩ := by decide

theorem witness_SummaryClearsWhatItReturned :
    live.cp.hold = .released ∧ live.eu.summary.getLsbD 0 = false
      ∧ (reading [] (some ⟨.summary, 0x80000002, false⟩)).cp.latch = some ⟨.summary, 0x80000002, false⟩ := by decide

theorem witness_ItemsAreReadAndWritten :
    (live.cp.hold = .released ∧ held.cp.hold ≠ .released)
      ∧ (∀ a ∈ ([0x00, 0x07, 0x0B, 0x7F] : List (BitVec 7)), a ≠ 0x08#7 ∧ a ≠ 0x09#7 ∧ a ≠ 0x0A#7)
      ∧ (∀ a ∈ ([0x06, 0x07, 0x0B, 0x7F] : List (BitVec 7)),
          a ∉ [0x00#7, 0x01#7, 0x02#7, 0x03#7, 0x04#7, 0x05#7, 0x08#7, 0x09#7, 0x0A#7])
      ∧ ((0x80 : Byte).getLsbD 7 = true ∧ (0x7F : Byte).getLsbD 7 = false ∧ (0x0A : Byte).extractLsb' 0 7 = 0x0A#7)
      ∧ (∀ a ∈ ([0x01, 0x03, 0x05, 0x0A, 0x7F] : List (BitVec 7)),
          (1#1 ++ a).getLsbD 7 = true ∧ (1#1 ++ a).extractLsb' 0 7 = a)
      ∧ (live.cp.cmdFlag = false ∧ (after (.mailboxFlags 1) live).cp.cmdFlag = true)
      ∧ (after (.mailboxSelect 0x80000101) live).cp.offset = 256 := by decide

theorem witness_MailboxBytesAreStoredAndRead :
    ∀ s ∈ [live, { live with cp := { live.cp with offset := 256, cmdFlag := true } },
        { live with cp := { live.cp with offset := 255, rspFlag := false, select := .response } }],
      s.cp.hold = .released ∧ s.mailboxesSound := by decide

theorem witness_ResponseIsWrittenThenAnnounced : (List.replicate 252 (1 : Byte)).length ≤ 252 := by decide +kernel

/-! ### Witnesses: mailbox commands -/

/-- A command that writes fewer bytes than its length says. -/
def short : State :=
  let s := commanded [0, 5, 0x13, 0, 1] live
  { s with cp := { s.cp with extent := 4 } }

theorem witness_CommandsAreCheckedBeforeExecution :
    (∀ s ∈ [short, commanded [0, 3, 2, 0] live, commanded [1, 1, 2, 0] live, commanded [0, 4, 8, 0] live,
        commanded [0, 5, 2, 0, 0] live],
      s.cp.cmdFlag = true ∧ s.cp.rspFlag = true ∧ s.cp.initBusy = false)
      ∧ ¬ short.cmdLength ≤ short.cp.extent ∧ ¬ 4 ≤ (commanded [0, 3, 2, 0] live).cmdLength
      ∧ ¬ (commanded [1, 1, 2, 0] live).cmdLength ≤ 256
      ∧ (let s := commanded [0, 4, 8, 0] live
         4 ≤ s.cmdLength ∧ s.cmdLength ≤ 256 ∧ s.cmdLength ≤ s.cp.extent ∧ s.cmdCode = 8)
      ∧ (let s := commanded [0, 5, 2, 0, 0] live
         s.cmdLength = 5 ∧ s.cmdLength ≤ s.cp.extent ∧ s.cmdCode = 2) := by decide

/-- A length of no whole entries, W at its least, W out of range, a parameter named twice, W with a port
enabled. -/
theorem witness_SetConfigAppliesEveryEntryOrNone :
    ((commanded [0, 5, 1, 0, 1] live).handed 0x01 5 ∧ ((commanded [0, 5, 1, 0, 1] live).cmdLength - 4) % 4 ≠ 0)
      ∧ (commanded [0, 4, 1, 0] live).handed 0x01 4
      ∧ (let s := commanded [0, 8, 1, 0, 1, 0, 0, 64] live
         s.handed 0x01 8 ∧ s.arg 4 1 = 1 ∧ s.arg 5 3 = 64)
      ∧ (let s := commanded [0, 8, 1, 0, 1, 0, 0, 63] live
         s.handed 0x01 8 ∧ s.arg 4 1 = 1 ∧ s.arg 5 3 = 63)
      ∧ (let s := commanded [0, 12, 1, 0, 5, 0, 0, 1, 5, 0, 0, 1] live
         s.handed 0x01 12 ∧ s.arg 4 1 = 5 ∧ s.arg 8 1 = 5 ∧ s.arg 5 3 = 1)
      ∧ (let s := commanded [0, 8, 1, 0, 1, 0, 0, 65] (ported [] live)
         s.handed 0x01 8 ∧ s.arg 5 3 = 65 ∧ s.config.width = 64 ∧ (s.port .mp0).config.enabled = true) := by decide

/-- A PORT_CONFIG of MP0 with these arguments and a template of this width and height. -/
def portConfig0 (enabled mode policy wait stall width height : Byte) (s : State) : State :=
  commanded
    ([0, 42, 6, 0, 0, enabled, mode, policy, wait, stall] ++ List.replicate 12 0 ++ [0, width, 0, height]
      ++ List.replicate 16 0) s

theorem witness_PortConfigChecksThenConfigures :
    (∀ s ∈ [portConfig0 2 0 0 40 10 64 64 live, portConfig0 1 3 0 40 10 64 64 live, portConfig0 1 0 2 40 10 64 64 live,
        portConfig0 1 0 0 0 10 64 64 live, portConfig0 1 0 0 40 0 64 64 live, portConfig0 1 0 0 40 10 64 64 live,
        portConfig0 1 2 1 1 1 64 64 (sized live)], s.handed 0x06 42 ∧ s.arg 4 1 = portCode .mp0)
      ∧ ((portConfig0 2 0 0 40 10 64 64 live).arg 5 1 = 2 ∧ (portConfig0 1 3 0 40 10 64 64 live).arg 6 1 = 3
          ∧ (portConfig0 1 0 2 40 10 64 64 live).arg 7 1 = 2 ∧ (portConfig0 1 0 0 0 10 64 64 live).arg 8 1 = 0
          ∧ (portConfig0 1 0 0 40 0 64 64 live).arg 9 1 = 0)
      ∧ ((commanded ([0, 42, 6, 0, 2] ++ List.replicate 37 0) live).handed 0x06 42
          ∧ (commanded ([0, 42, 6, 0, 2] ++ List.replicate 37 0) live).arg 4 1 = 2)
      ∧ ((portConfig0 1 0 0 40 10 64 64 live).arg 5 1 = true.toNat ∧ live.config.width = 0)
      ∧ (let s := portConfig0 0 0 0 40 10 64 64 (ported [request1 0 .ready] live)
         s.handed 0x06 42 ∧ s.arg 5 1 = false.toNat ∧ (s.port .mp0).config.enabled = true ∧ (s.port .mp0).slots ≠ [])
      ∧ (windowFits (portConfig0 1 2 1 1 1 64 64 (sized live)).argTemplate (sized live).config = true
          ∧ windowFits (portConfig0 1 2 1 1 1 65 64 (sized live)).argTemplate (sized live).config = false) := by decide

def commitNow (s : State) : State := commanded [0, 4, 0x22, 0] s

/-- The staging slot holds this table. -/
def staging1 (table : List (Option CoeffSet)) (s : State) : State :=
  { s with store := { s.store with staging := .opened ⟨header1, table⟩ } }

theorem witness_ProfileCommitAppliesOrDefers :
    (∀ s ∈ [live, deferredOp (.delete 3) .closed, staging1 [none] live, staging1 [some CoeffSet.zero] live,
        staging1 [some set1] (stocked live)], (commitNow s).handed 0x22 4)
      ∧ (live.store.pendingOp = none ∧ live.store.staging = .closed)
      ∧ (deferredOp (.delete 3) .closed).store.pendingOp ≠ none
      ∧ (¬ CoeffSet.zero.fillSound ∧ set1.fillSound)
      ∧ ((stocked live).key? 3 = some (7, 0) ∧ ∀ j < (3 : Fin 16), (stocked live).key? j ≠ some (7, 0))
      ∧ ((∀ j, live.key? j ≠ some (7, 0)) ∧ live.profile? 0 = none)
      ∧ ((stocked live).store.boundSlot ≠ some 3
          ∧ (meshing bound3 none (staging1 [some set1] (stocked live))).store.boundSlot = some 3) := by decide

/-- Every slot holds a profile of another lens. -/
theorem witness_ProfileCommitAppliesOrDefers_full :
    let s := { live with
      store := { live.store with
        slots := Vector.replicate 16 ⟨1, some ⟨{ header1 with lensId := 8 }, [set1]⟩⟩
        staging := .opened staged1 } }
    (commitNow s).handed 0x22 4 ∧ s.store.pendingOp = none
      ∧ ∀ j, s.key? j ≠ some (staged1.header.lensId, staged1.header.converter) ∧ s.profile? j ≠ none := by decide

theorem witness_ProfileDiscardAndDelete :
    (∀ s ∈ [live, staging1 [none] live, deferredOp (.commit 3) (.committing staged1)],
      (commanded [0, 4, 0x23, 0] s).handed 0x23 4)
      ∧ (live.store.staging = .closed ∧ (staging1 [none] live).store.staging = .opened ⟨header1, [none]⟩)
      ∧ ((deferredOp (.commit 3) (.committing staged1)).store.staging = .committing staged1
          ∧ (deferredOp (.commit 3) (.committing staged1)).store.pendingOp = some (.commit 3))
      ∧ ((commanded [0, 5, 0x24, 0, 16] live).handed 0x24 5 ∧ (commanded [0, 5, 0x24, 0, 16] live).arg 4 1 = 16)
      ∧ (∀ s ∈ [live, stocked live, meshing bound3 none (stocked live), deferredOp (.delete 3) .closed],
          (commanded [0, 5, 0x24, 0, 3] s).handed 0x24 5 ∧ (commanded [0, 5, 0x24, 0, 3] s).arg 4 1 = (3 : Fin 16).val)
      ∧ (live.profile? 3 = none ∧ (stocked live).profile? 3 ≠ none ∧ (stocked live).store.boundSlot ≠ some 3)
      ∧ ((meshing bound3 none (stocked live)).profile? 3 ≠ none
          ∧ (meshing bound3 none (stocked live)).store.boundSlot = some 3
          ∧ (meshing bound3 none (stocked live)).store.pendingOp = none) := by decide

theorem witness_OneValueCommandsSetTheirValue :
    (∀ f ∈ [Feed.link, .posted],
      (commanded [0, 5, 0x13, 0, BitVec.ofNat 8 f.code] live).handed 0x13 5
        ∧ (commanded [0, 5, 0x13, 0, BitVec.ofNat 8 f.code] live).arg 4 1 = f.code)
      ∧ ((commanded [0, 5, 0x13, 0, 2] live).handed 0x13 5 ∧ 2 ≤ (commanded [0, 5, 0x13, 0, 2] live).arg 4 1)
      ∧ (∀ r ∈ [RunState.run, .hold, .step],
          (commanded [0, 5, 5, 0, BitVec.ofNat 8 r.code] live).handed 0x05 5
            ∧ (commanded [0, 5, 5, 0, BitVec.ofNat 8 r.code] live).arg 4 1 = r.code)
      ∧ ((commanded [0, 5, 5, 0, 3] live).handed 0x05 5 ∧ 3 ≤ (commanded [0, 5, 5, 0, 3] live).arg 4 1) := by
  decide

theorem witness_OneValueCommandsSetTheirValue_override :
    (∀ b ∈ ([0xFF, 16, 0xFE] : List Byte),
          (commanded [0, 5, 0x27, 0, b] live).handed 0x27 5 ∧ (commanded [0, 5, 0x27, 0, b] live).arg 4 1 = b.toNat)
      ∧ (∀ s ∈ [live, lensOn live, lensOn (stocked live)],
          (commanded [0, 5, 0x27, 0, 3] s).handed 0x27 5 ∧ (commanded [0, 5, 0x27, 0, 3] s).arg 4 1 = (3 : Fin 16).val)
      ∧ (live.lst.record = none ∧ (lensOn live).lst.record ≠ none ∧ (lensOn live).profile? 3 = none
          ∧ (lensOn (stocked live)).profile? 3 ≠ none) := by decide

theorem witness_ReadingCommandsChangeNothingElse :
    ((commanded [0, 4, 2, 0] live).handed 0x02 4 ∧ (commanded [0, 4, 3, 0] live).handed 0x03 4
        ∧ (commanded [0, 4, 0x26, 0] live).handed 0x26 4)
      ∧ (∀ b ∈ ([0, 127, 128] : List Byte),
          (commanded [0, 5, 0x14, 0, b] live).handed 0x14 5 ∧ (commanded [0, 5, 0x14, 0, b] live).arg 4 1 = b.toNat)
      ∧ (∀ bytes ∈ ([[16, 0, 0], [3, 0, 9], [3, 1, 1], [3, 0, 1], [3, 1, 0]] : List (List Byte)),
          (commanded ([0, 7, 0x25, 0] ++ bytes) (stocked live)).handed 0x25 7
            ∧ (commanded ([0, 7, 0x25, 0] ++ bytes) (stocked live)).arg 4 1 = (bytes.getD 0 0).toNat
            ∧ (commanded ([0, 7, 0x25, 0] ++ bytes) (stocked live)).arg 6 1 = (bytes.getD 2 0).toNat)
      ∧ (live.profile? 3 = none ∧ (stocked live).profile? 3 = some profile1
          ∧ profile1.table.length = profile1.header.focals.length * profile1.header.focuses.length) := by decide

/-- A PROFILE_OPEN of one focal and one focus node, with these bytes of converter, protection and Rn. -/
def openBytes (focals converter isProtected rnLow oxLow : Byte) : List Byte :=
  [0, 24, 0x20, 0, focals, 1, 0, 0, 0, 7, converter, isProtected, 0, 0, 1, rnLow, 0, oxLow, 0, 0, 0, 100, 0, 0]

theorem witness_StagingSlotIsOpenedAndWritten :
    (∀ bytes ∈ [openBytes 1 0 0 0 0, openBytes 0 0 0 0 0, openBytes 1 4 0 0 0, openBytes 1 0 2 0 0],
      (commanded bytes live).handed 0x20 24)
      ∧ (live.store.staging = .closed ∧ (staging1 [none] live).store.staging ≠ .closed)
      ∧ (let s := commanded (openBytes 1 0 0 0 0) live
         s.arg 4 1 = 1 ∧ s.arg 5 1 = 1 ∧ s.arg 10 1 ≤ 3 ∧ s.arg 11 1 ≤ 1 ∧ s.arg 12 4 = 256 ∧ s.arg 16 2 = 0
          ∧ s.arg 18 2 = 0 ∧ s.arg 20 2 = 100 ∧ s.arg 22 2 = 0)
      ∧ ((commanded (openBytes 0 0 0 0 0) live).arg 4 1 = 0 ∧ (commanded (openBytes 1 4 0 0 0) live).arg 10 1 = 4
          ∧ (commanded (openBytes 1 0 2 0 0) live).arg 11 1 = 2) := by decide

/-- One set written; a count of 0, an index past the table, a length that does not fit the count. -/
theorem witness_StagingSlotIsOpenedAndWritten_nodes :
    ((commanded ([0, 30, 0x21, 0, 0, 1] ++ List.replicate 24 0) (staging1 [none] live)).handed 0x21 30
        ∧ (commanded ([0, 30, 0x21, 0, 0, 1] ++ List.replicate 24 0) (staging1 [none] live)).arg 5 1 = 1)
      ∧ (∀ bytes ∈ ([[0, 6, 0x21, 0, 0, 0], [0, 6, 0x21, 0, 1, 1], [0, 6, 0x21, 0, 0, 1]] : List (List Byte)),
          (commanded bytes (staging1 [none] live)).handed 0x21 6
            ∧ (commanded bytes (staging1 [none] live)).arg 4 1 = (bytes.getD 4 0).toNat
            ∧ (commanded bytes (staging1 [none] live)).arg 5 1 = (bytes.getD 5 0).toNat)
      ∧ [(none : Option CoeffSet)].length = header1.focals.length * header1.focuses.length := by decide

/-! ### Witnesses: the whole part -/

theorem witness_TimePassesOnlyOnAnEmptyQueue :
    (exec .grant live = .next live ∧ live.pending = []) ∧ (live.dueEvents = [] ∧ live.cp.hold = .released)
      ∧ (held.pending = [] ∧ held.dueEvents = [] ∧ held.cp.hold ≠ .released)
      ∧ (ported [request1 0 .ready] live).dueEvents = [.grant]
      ∧ (State.reset.pending = [] ∧ State.reset.cp.initBusy = true ∧ State.reset.cp.hold = .released
          ∧ 250 ≤ (250 : Word).toNat) :=
  ⟨⟨rfl, rfl⟩, ⟨rfl, rfl⟩, ⟨rfl, rfl, by decide⟩, rfl, rfl, rfl, rfl, by decide⟩

/-- Each event of the part's own, at its moment. -/
theorem witness_TimePassesOnlyOnAnEmptyQueue_due :
    (after .grant (offering fields1 0 live)).dueEvents = [.unitPlace]
      ∧ (commanded [0, 4, 2, 0] live).dueEvents = [.getConfig] ∧ short.dueEvents = [.badCommand]
      ∧ { inFrame [] with time := 20 }.dueEvents = [.interByteTimeout]
      ∧ (timers (some 100) (some 100) 100 true).dueEvents = [.linkFreshnessExpiry, .postedFreshnessExpiry]
      ∧ (strobing (.locked 8000 100) 100).dueEvents = [.lossTimerExpiry .mp0]
      ∧ (ported [waiting1 1] live).dueEvents = [.waitTimerExpiry .mp0 1]
      ∧ (queued [] 1 0).dueEvents = [.refuseRecordMove .mp0]
      ∧ (crowded 1018 (mesh1 unbound (some 0))).dueEvents = [.stallExpiry] := by decide +kernel

theorem witness_EpochChangesOnlyAtAttachOrReset :
    (∃ t, exec .resetCore (commanded [0, 4, 4, 0] (lensOn live)) = .next t)
      ∧ ∃ t, exec .postAttach (commanded (attachBytes 1 1 3 0 0) live) = .next t := ⟨⟨_, rfl⟩, ⟨_, rfl⟩⟩

/-- A row is placed while a slot is bound. -/
theorem witness_BoundSlotsAndGenerationsAreKept :
    exec .unitPlace (meshing bound3 none (stocked live)) = .next (after .unitPlace (meshing bound3 none (stocked live)))
      ∧ (meshing bound3 none (stocked live)).store.boundSlot = some 3
      ∧ (after .unitPlace (meshing bound3 none (stocked live))).store.boundSlot = some 3 := ⟨rfl, rfl, by decide⟩

theorem witness_APortLeavesTheOtherAlone :
    (∃ t, exec (.strobe .mp0) (ported [] live) = .next t)
      ∧ (∃ t, exec .portReset (portReset0 live) = .next t) ∧ (portReset0 live).arg 4 1 = portCode .mp0 :=
  ⟨⟨_, rfl⟩, ⟨_, rfl⟩, by decide⟩

theorem witness_QueuesGrowOnlyAtTheirEnds :
    ∃ t, exec .unitPlace (crowded 2 (mesh1 unbound none)) = .next t := ⟨_, rfl⟩

/-- A masked kind, room for one more event, and none; an L event alone, deferred and not. -/
theorem witness_QueuesGrowOnlyAtTheirEnds_posting :
    let masked := { live with config := { ConfigSet.reset with mask := 2 } }
    masked.config.mask.getLsbD EventKind.resetDone.code = true ∧ masked.config.mask.getLsbD EventKind.noProfile.code = false
      ∧ (List.replicate 31 event1).length < 32 ∧ 32 ≤ (List.replicate 32 event1).length
      ∧ (let s := { live with eu := { live.eu with queue := [⟨.linkRestored, 0, 0⟩] } }
         s.notifyAsserted = true
          ∧ { s with config := { s.config with deferLow := true } }.notifyAsserted = false) := by decide +kernel

theorem witness_RefusedCommandsChangeNothingElse :
    (∃ t, exec .setSource (commanded [0, 5, 0x13, 0, 9] live) = .next t)
      ∧ ∃ t, exec .getConfig (commanded [0, 4, 2, 0] State.reset) = .next t := ⟨⟨_, rfl⟩, ⟨_, rfl⟩⟩

/-! ### Witnesses: invariants -/

/-- A busy part: a lens, a profile, a mesh bound to slot 3 with a unit that waits, a command in the queue. -/
def busy : State := { meshing bound3 (some 10000) (lensOn (stocked live)) with pending := [.unitPlace] }

theorem busy_steps : ∃ t, step busy = .next t := ⟨_, rfl⟩

theorem witness_TimelineStaysInOrder : (∃ t, step busy = .next t) ∧ busy.lst.sound := by
  refine ⟨busy_steps, by decide, trivial, ?_⟩
  show _ ∧ _
  decide

theorem request1_sound : (request1 0 .inEngine).sound :=
  ⟨⟨rfl, rfl⟩, by decide, by decide, by decide, by decide⟩

theorem witness_PortsStayConfiguredForTheirRequests :
    (∃ t, step busy = .next t) ∧ busy.portConfigured .mp0 ∧ busy.portConfigured .mp1 := by
  refine ⟨busy_steps, ?_⟩
  unfold State.portConfigured
  decide

theorem busy_profiles (k : Fin 16) : busy.profile? k = if k = 3 then some profile1 else none := by
  revert k
  decide

theorem busy_keys (k : Fin 16) : busy.key? k = if k = 3 then some (7, 0) else none := by
  revert k
  decide

theorem busy_storeSound : busy.storeSound := by
  refine ⟨?_, by decide, by decide, trivial⟩
  intro j k key hj hk
  rw [busy_keys] at hj hk
  split at hj
  · split at hk
    · simp_all
    · exact absurd hk (by simp)
  · exact absurd hj (by simp)

theorem witness_StoreStaysSound : (∃ t, step busy = .next t) ∧ busy.quietInit ∧ busy.storeSound :=
  ⟨busy_steps, ⟨fun h => absurd rfl h, fun h => absurd h (by decide)⟩, busy_storeSound⟩

theorem witness_StoreStaysSound_init :
    (∃ t, step { State.reset with pending := [.mailboxDataWrite 1] } = .next t) ∧ State.reset.cp.initBusy = true :=
  ⟨⟨_, rfl⟩, rfl⟩

theorem witness_ProfilesStayWellFormed :
    (∃ t, step busy = .next t) ∧ busy.storeSound ∧ busy.store.profilesSound := by
  refine ⟨busy_steps, busy_storeSound, ?_, trivial⟩
  intro k p h
  change busy.profile? k = some p at h
  rw [busy_profiles] at h
  split at h
  · cases h
    unfold Profile.sound ProfileHeader.sound
    refine ⟨⟨by decide, by decide, by decide, by decide, by decide, by decide, by decide, by decide, by decide, ?_, ?_⟩,
      by decide, by decide⟩
    · exact ⟨by decide, by decide, trivial⟩
    · exact ⟨by decide, by decide, trivial⟩
  · exact absurd h (by simp)

theorem witness_ControlLinkAndStrobeStateStaysSound :
    (∃ t, step busy = .next t) ∧ busy.mailboxesSound ∧ busy.config.inRange ∧ busy.eu.queue.length ≤ 32
      ∧ busy.me.sound ∧ busy.llr.sound ∧ ∀ p, (busy.tsu.get p).sound := by
  refine ⟨busy_steps, by decide, by decide, by decide, ⟨by decide, ?_⟩, by decide, ?_⟩
  · intro m h
    cases h
    decide
  · intro p
    cases p <;> exact ⟨by decide, trivial, ⟨rfl, rfl⟩, (by decide : Run.empty.sound)⟩

theorem witness_PortsStaySound :
    (∃ t, step busy = .next t) ∧ (busy.portSound .mp0 ∧ busy.portSound .mp1)
      ∧ busy.fifoSound .mp0 ∧ busy.fifoSound .mp1 := by
  refine ⟨busy_steps, ⟨?_, ?_⟩, by decide, by decide⟩
  · refine ⟨by decide, by decide, by decide, ?_, ?_⟩
    · intro r h
      cases List.mem_singleton.mp h
      exact request1_sound
    · exact ⟨request1 0 .inEngine, [], rfl, rfl, rfl, by simp⟩
  · have none : (busy.port .mp1).slots = [] := rfl
    exact ⟨by decide, by decide, by decide, by simp [none], by rw [none]; exact fun x h => absurd h (by simp)⟩

end Sys2Proof.Tests
end

section
/-! PROOFS. The correction model: row coefficients (R7 to R10) and the normalised squared radius (R12). -/

namespace Sys2Proof.Machine

/-- Division in `Int` by a non-negative divisor is the floor of the exact quotient. -/
theorem floor_intCast_div (n : Int) {d : Int} (hd : 0 ≤ d) : ⌊(n : ℚ) / (d : ℚ)⌋ = n / d := by
  lift d to ℕ using hd
  exact_mod_cast Rat.floor_intCast_div_natCast n d

/-! ### Bilinear weights (R10) -/

/-- A product of two axis weights lies in 0..2^24. -/
theorem axisWeight_mul_mem {a b : Int} (ha : 0 ≤ a ∧ a ≤ 4096) (hb : 0 ≤ b ∧ b ≤ 4096) :
    0 ≤ a * b ∧ a * b ≤ 2 ^ 24 := by
  obtain ⟨ha0, ha1⟩ := ha
  obtain ⟨hb0, hb1⟩ := hb
  refine ⟨mul_nonneg ha0 hb0, ?_⟩
  calc a * b ≤ 4096 * 4096 := mul_le_mul ha1 hb1 hb0 (by decide)
    _ = 2 ^ 24 := by decide

/-- An axis weight and what it leaves of 4096 both lie in 0..4096. -/
theorem axisWeight_mem {w : Nat} (h : w ≤ 4096) :
    (0 ≤ (w : Int) ∧ (w : Int) ≤ 4096) ∧ (0 ≤ (4096 : Int) - w ∧ (4096 : Int) - w ≤ 4096) := by
  omega

theorem bilinearWeights_sum (f u : Int) :
    (4096 - f) * (4096 - u) + f * (4096 - u) + (4096 - f) * u + f * u = 2 ^ 24 := by
  ring

theorem bilinear_eq_floor (wf wu : Nat) (c00 c10 c01 c11 : Int) :
    bilinear wf wu c00 c10 c01 c11
      = ⌊(((4096 - wf) * (4096 - wu) * c00 + wf * (4096 - wu) * c10 + (4096 - wf) * wu * c01 + wf * wu * c11
            + 2 ^ 23 : Int) : ℚ) / 2 ^ 24⌋ := by
  rw [bilinear, ← floor_intCast_div _ (show (0 : Int) ≤ 2 ^ 24 by decide), Int.cast_pow, Int.cast_ofNat]

/-- A range that holds `v` between two sums weighted by non-negative weights that sum to 2^24 holds the average
rounded at 24: the half that rounding adds is less than a whole. -/
theorem roundedAverage_mem {lo hi v : Int} (hlo : lo * 2 ^ 24 ≤ v) (hhi : v ≤ hi * 2 ^ 24) :
    lo ≤ (v + 2 ^ 23) / 2 ^ 24 ∧ (v + 2 ^ 23) / 2 ^ 24 ≤ hi := by
  omega

/-- R10: the weights are not negative and sum to 2^24, so a range that holds the four values holds their
rounded bilinear average. -/
theorem bilinear_mem {wf wu : Nat} (hf : wf ≤ 4096) (hu : wu ≤ 4096) {lo hi c00 c10 c01 c11 : Int}
    (h : ∀ v ∈ [c00, c10, c01, c11], lo ≤ v ∧ v ≤ hi) :
    lo ≤ bilinear wf wu c00 c10 c01 c11 ∧ bilinear wf wu c00 c10 c01 c11 ≤ hi := by
  simp only [List.forall_mem_cons, List.not_mem_nil, false_implies, implies_true, and_true] at h
  obtain ⟨⟨l00, u00⟩, ⟨l10, u10⟩, ⟨l01, u01⟩, ⟨l11, u11⟩⟩ := h
  obtain ⟨mf, mf'⟩ := axisWeight_mem hf
  obtain ⟨mu, mu'⟩ := axisWeight_mem hu
  have n00 := (axisWeight_mul_mem mf' mu').1
  have n10 := (axisWeight_mul_mem mf mu').1
  have n01 := (axisWeight_mul_mem mf' mu).1
  have n11 := (axisWeight_mul_mem mf mu).1
  have hsum := bilinearWeights_sum wf wu
  refine roundedAverage_mem ?_ ?_
  · rw [← hsum, mul_comm lo, add_mul, add_mul, add_mul]
    gcongr
  · rw [← hsum, mul_comm hi, add_mul, add_mul, add_mul]
    gcongr

/-! ### The grid nodes of a row (R8, R9) -/

theorem locate_next_of_single {nodes : List Nat} (h : nodes.length = 1) (v : Nat) : (locate nodes v).next = 0 := by
  simp [locate, h]

theorem locate_next_of_two_le {nodes : List Nat} (h : 2 ≤ nodes.length) (v : Nat) :
    (locate nodes v).next = (locate nodes v).index + 1 := by
  simp only [locate, if_neg (show ¬ nodes.length ≤ 1 by omega)]

/-- Settles O2: the average stays in every range that holds the four values; the rest is read off `rowCoeffs`. -/
theorem rowCoefficientsAreWeightedSums : Obligations.RowCoefficientsAreWeightedSums := by
  refine ⟨fun wf wu hf hu c00 c10 c01 c11 => ?_, fun p focal focus => ?_⟩
  · obtain ⟨mf, mf'⟩ := axisWeight_mem hf
    obtain ⟨mu, mu'⟩ := axisWeight_mem hu
    have ⟨hmin, hmax⟩ : min (min c00 c10) (min c01 c11) ≤ bilinear wf wu c00 c10 c01 c11
        ∧ bilinear wf wu c00 c10 c01 c11 ≤ max (max c00 c10) (max c01 c11) :=
      bilinear_mem hf hu (by simp)
    refine ⟨axisWeight_mul_mem mf' mu', axisWeight_mul_mem mf mu', axisWeight_mul_mem mf' mu,
      axisWeight_mul_mem mf mu, bilinearWeights_sum wf wu, bilinear_eq_floor wf wu c00 c10 c01 c11,
      hmin, hmax, bilinear_mem hf hu, fun h => ?_⟩
    have hsigned := bilinear_mem hf hu fun v hv => And.imp_right Int.le_sub_one_of_lt (h v hv)
    exact hsigned.imp_right Int.lt_of_le_sub_one
  · exact ⟨rfl,
      fun h => locate_next_of_single (by simpa using h) focal,
      fun h => locate_next_of_single (by simpa using h) focus,
      fun h => locate_next_of_two_le (by simpa using h) focal,
      fun h => locate_next_of_two_le (by simpa using h) focus, rfl⟩

/-! ### The normalised squared radius (R12) -/

/-- The quotient that `rho` clamps, as a floor. -/
theorem floor_radius_eq (dx dy rn : Int) :
    ⌊((dx ^ 2 + dy ^ 2 : Int) : ℚ) * 2 ^ 30 / (rn : ℚ) ^ 2⌋ = (dx ^ 2 + dy ^ 2) * 2 ^ 30 / rn ^ 2 := by
  rw [← floor_intCast_div _ (sq_nonneg rn), Int.cast_mul, Int.cast_pow 2, Int.cast_ofNat, Int.cast_pow rn]

/-- Only the upper bound of `rho`'s clamp can act. -/
theorem radius_nonneg (dx dy rn : Int) : 0 ≤ (dx ^ 2 + dy ^ 2) * 2 ^ 30 / rn ^ 2 :=
  Int.ediv_nonneg (by positivity) (sq_nonneg rn)

theorem rho_value (dx dy rn : Int) :
    (rho dx dy rn).value = min (2 ^ 32 - 1) ((dx ^ 2 + dy ^ 2) * 2 ^ 30 / rn ^ 2) := by
  have h0 := radius_nonneg dx dy rn
  simp only [rho, clampMark, clampInt_eq (show (0 : Int) ≤ 4294967295 by decide)]
  omega

theorem rho_marked_iff (dx dy rn : Int) :
    (rho dx dy rn).marked = true ↔ 2 ^ 32 - 1 < (dx ^ 2 + dy ^ 2) * 2 ^ 30 / rn ^ 2 := by
  have hmark : (rho dx dy rn).marked = true ↔ _ ≠ (rho dx dy rn).value := clampMark_marked _ _ _
  rw [hmark, rho_value]
  omega

/-- The quotient reaches 4 (as a Q2.30 value, 2^32) exactly from the distance `2 * rn` on. -/
theorem radius_reaches_four_iff {rn : Int} (hrn : 0 < rn) (dx dy : Int) :
    2 ^ 32 - 1 < (dx ^ 2 + dy ^ 2) * 2 ^ 30 / rn ^ 2 ↔ (2 * rn) ^ 2 ≤ dx ^ 2 + dy ^ 2 := by
  rw [Int.sub_one_lt_iff, Int.le_ediv_iff_mul_le (by positivity), mul_pow]
  omega

/-- A clamp of ρ counts for the node's saturation mark (R12, R19). -/
theorem evalNode_marked_of_rho_marked {rn dx dy : Int} (h : (rho dx dy rn).marked = true) (rgb : Bool)
    (c : RowCoeffs) (s : Int) : (evalNode rgb rn c s dx dy).2 = true := by
  cases rgb <;> simp [evalNode, h]

/-- Settles O4: the quotient is not negative, so ρ is its minimum with 2^32 - 1, and the clamp acts from
4 * rn^2 on. -/
theorem radiusIsFlooredThenClamped : Obligations.RadiusIsFlooredThenClamped := by
  intro dx dy rn hlo _ q
  have hq : q = (dx ^ 2 + dy ^ 2) * 2 ^ 30 / rn ^ 2 := floor_radius_eq dx dy rn
  have h0 := radius_nonneg dx dy rn
  have hmarked := rho_marked_iff dx dy rn
  rw [rho_value, hq]
  refine ⟨by omega, by omega, hmarked, ?_, evalNode_marked_of_rho_marked⟩
  exact hmarked.trans (radius_reaches_four_iff (by omega) dx dy)

end Sys2Proof.Machine
end

section
/-! PROOFS. The profile store: PROFILE_DISCARD (R37) and PROFILE_DELETE (R38, R39). -/

namespace Sys2Proof.Machine

/-! ### A slot number as an argument (R196) -/

theorem slotOf?_eq_none {n : Nat} (h : 16 ≤ n) : slotOf? n = none := by
  simp [slotOf?, h]

@[simp] theorem slotOf?_val (k : Fin 16) : slotOf? k.val = some k := by
  simp [slotOf?]

/-! ### PROFILE_DISCARD (R37) -/

theorem exec_profileDiscard {s : State} (h : s.handed 0x23 4) :
    exec .profileDiscard s = .next (profileDiscardBody s) :=
  congrArg Host.Outcome.next (s.runCommand_fixed profileDiscardBody h rfl)

theorem profileDiscardBody_closed {s : State} (h : s.store.staging = .closed) :
    profileDiscardBody s = s.respond .ok [0] := by
  rw [profileDiscardBody, h]

theorem profileDiscardBody_opened {s : State} {p : Staged} (h : s.store.staging = .opened p) :
    profileDiscardBody s = ({ s with store := { s.store with staging := .closed } }).respond .ok [1] := by
  rw [profileDiscardBody, h]

theorem profileDiscardBody_committing {s : State} {p : Staged} {k : Fin 16} (h : s.store.staging = .committing p)
    (hop : s.store.pendingOp = some (.commit k)) :
    profileDiscardBody s
      = ({ s with store := { s.store with staging := .closed, pendingOp := none } }).respond .ok [2] := by
  rw [profileDiscardBody, h, hop]
  rfl

/-! ### PROFILE_DELETE (R38, R39) -/

theorem exec_profileDelete {s : State} (h : s.handed 0x24 5) :
    exec .profileDelete s = .next (profileDeleteBody s) :=
  congrArg Host.Outcome.next (s.runCommand_fixed profileDeleteBody h rfl)

theorem profileDeleteBody_badSlot {s : State} (h : 16 ≤ s.arg 4 1) :
    profileDeleteBody s = s.respond .badArgument [1] := by
  rw [profileDeleteBody, slotOf?_eq_none h]
  rfl

/-- The two checks that follow the slot number's, in their order (R38). -/
theorem profileDeleteBody_slot {s : State} {k : Fin 16} (h : s.arg 4 1 = k.val) :
    profileDeleteBody s =
      if s.store.pendingOp.isSome then s.respond .busy []
      else if (s.profile? k).isNone then s.respond .notFound []
      else s.deleteSlot k := by
  rw [profileDeleteBody, h, slotOf?_val]

/-- Bit 4 of PROFILE_APPLIED's parameter tells a delete (R36). -/
theorem appliedParam_delete (g : Byte) (k : Fin 16) : appliedParam g true k = g ++ 0x1#4 ++ BitVec.ofNat 4 k.val :=
  congrArg (· ++ BitVec.ofNat 4 k.val) (BitVec.append_assoc (x₁ := g) (x₂ := 0#3) (x₃ := 1#1))

/-- The delete applied while no operation is pending: it has none to clear (R39). -/
theorem State.applyDelete_eq {s : State} (h : s.store.pendingOp = none) (k : Fin 16) :
    s.applyDelete k =
      { s with
        store := { s.store with slots := s.store.slots.set k ⟨s.generation k, none⟩ }
        lst := { s.lst with override := if s.lst.override = some k then none else s.lst.override }
        eu := s.posting [(.profileApplied, s.generation k ++ 0x1#4 ++ BitVec.ofNat 4 k.val)] } := by
  rw [← appliedParam_delete, State.applyDelete, ← h]
  rfl

theorem State.deleteSlot_bound {s : State} {k : Fin 16} (h : s.store.boundSlot = some k) :
    s.deleteSlot k =
      ({ s with store := { s.store with pendingOp := some (.delete k) } }).respond .deferred
        [BitVec.ofNat 8 k.val, s.generation k] :=
  if_pos h

theorem State.deleteSlot_free {s : State} {k : Fin 16} (h : s.store.boundSlot ≠ some k) :
    s.deleteSlot k = (s.applyDelete k).respond .ok [BitVec.ofNat 8 k.val, s.generation k] :=
  if_neg h

/-- Settles O44: each state of the staging slot, then PROFILE_DELETE's checks one after the other. -/
theorem profileDiscardAndDelete : Obligations.ProfileDiscardAndDelete := by
  refine fun s => ⟨fun h => ?_, fun h => ?_⟩
  · rw [exec_profileDiscard h]
    refine ⟨fun hst => ?_, fun p hst => ?_, fun p k hst hop => ?_⟩
    · rw [profileDiscardBody_closed hst]
    · rw [profileDiscardBody_opened hst]
    · rw [profileDiscardBody_committing hst hop]
  · rw [exec_profileDelete h]
    refine ⟨fun hbad => by rw [profileDeleteBody_badSlot hbad], fun k hk => ?_⟩
    rw [profileDeleteBody_slot hk]
    refine ⟨fun hop => ?busy, fun hop hempty => ?notFound, fun hop hfull hfree => ?applied,
      fun hop hfull hbound => ?deferred⟩
    case busy => rw [if_pos (Option.isSome_iff_ne_none.mpr hop)]
    case notFound => simp [hop, hempty]
    case applied => simp [hop, hfull, State.deleteSlot_free hfree, State.applyDelete_eq hop]
    case deferred => simp [hop, hfull, State.deleteSlot_bound hbound]

end Sys2Proof.Machine
end

section
/-! PROOFS. Times: how two times compare, and their signed difference (R94). -/

namespace Sys2Proof.Machine

/-! ### The comparisons and the difference by the elapsed time (R94) -/

theorem elapsed_eq_zero_iff (a b : Word) : elapsed a b = 0 ↔ a = b := by
  constructor
  · intro h
    by_contra hne
    have hswap := elapsed_swap hne
    have hlt : elapsed b a < 2 ^ 32 := BitVec.isLt _
    omega
  · rintro rfl
    exact elapsed_self a

theorem notLater_iff (a b : Word) : notLater a b = true ↔ elapsed a b ≤ 2 ^ 31 := by
  simp [notLater, later]

/-- b is not earlier than a exactly where a is not later than b. -/
theorem notEarlier_eq_notLater (a b : Word) : notEarlier b a = notLater a b := by
  rw [notEarlier, notLater, later_eq_earlier]

theorem timeDiff_eq (a b : Word) :
    timeDiff a b = if elapsed a b ≤ 2 ^ 31 - 1 then (elapsed a b : Int) else (elapsed a b : Int) - 2 ^ 32 :=
  if_congr (Nat.lt_iff_le_pred (Nat.two_pow_pos 31)) rfl rfl

/-! ### Late samples (R70) -/

theorem State.isLate_iff {s : State} {e : Entry} (h : s.lst.timeline.getLast? = some e) (t : Word) :
    s.isLate t = true ↔ elapsed t e.tLast ≤ 2 ^ 31 := by
  rw [State.isLate, State.newest?, h]
  exact notLater_iff t e.tLast

/-- Settles O1: each comparison is a bound on the elapsed time from a to b; one that is asked from b to a is turned
round first. -/
theorem timesCompareByTheirDifference : Obligations.TimesCompareByTheirDifference := by
  refine ⟨fun a b => ?compare, fun s e t hnewest hunordered => ?late⟩
  case compare =>
    have hearlier : earlier a b = true ↔ 1 ≤ elapsed a b ∧ elapsed a b ≤ 2147483647 := by
      rw [earlier_iff]
      omega
    have hlater : later a b = true ↔ 2147483649 ≤ elapsed a b := later_iff a b
    rw [← elapsed_eq, later_eq_earlier a b, ← later_eq_earlier b a, notEarlier_eq_notLater]
    exact ⟨elapsed_eq_zero_iff a b, hearlier, hearlier, hlater, hlater, notLater_iff a b, notLater_iff a b,
      timeDiff_eq a b⟩
  case late => exact (State.isLate_iff hnewest t).mpr hunordered.le

end Sys2Proof.Machine
end

section
/-! PROOFS. The ID item of the control port (R166, R195). -/

namespace Sys2Proof.Machine

/-- Address 0 names the ID item, whose value does not depend on the state (R166). -/
theorem State.readItem_id (s : State) : s.readItem 0x00#7 = idWord := if_pos rfl

/-- The three fields of the ID word, highest first, put together (R195). -/
theorem idWord_eq : idWord = 0x5C161201#32 := by decide

/-- Settles O8: the read gives the constant `idWord`, and each field is a slice of that constant. -/
theorem idIsFixed : Obligations.IdIsFixed := by
  intro s
  have hread : s.readItem 0x00#7 = 0x5C161201#32 := s.readItem_id.trans idWord_eq
  rw [hread]
  exact ⟨rfl, by decide, by decide, by decide, by decide, by decide⟩

end Sys2Proof.Machine
end

section
/-! PROOFS. The frame of every command: the blocks of the part that it may move. -/

namespace Sys2Proof.Machine

/-! ### Blocks -/

/-- The fields of `State`, the model's own lists of phases apart. -/
inductive Block where
  | time | cp | config | eu | llr | lst | tsu | ports | store | me | freeIndex | pending
  deriving DecidableEq

/-- The block stands in `t` as it stands in `s`. -/
def Block.same (s t : State) : Block → Prop
  | .time => t.time = s.time
  | .cp => t.cp = s.cp
  | .config => t.config = s.config
  | .eu => t.eu = s.eu
  | .llr => t.llr = s.llr
  | .lst => t.lst = s.lst
  | .tsu => t.tsu = s.tsu
  | .ports => t.ports = s.ports
  | .store => t.store = s.store
  | .me => t.me = s.me
  | .freeIndex => t.freeIndex = s.freeIndex
  | .pending => t.pending = s.pending

/-- The blocks that a command may move. A mailbox command moves `cp` and `eu` by its response. -/
def blocksOf : Instr → List Block
  | .powerOn | .pinReset => [.time, .cp, .config, .eu, .llr, .lst, .tsu, .ports, .store, .me]
  | .initBusyClear => [.cp, .eu, .store, .freeIndex]
  | .linkByte _ => [.eu, .llr, .lst, .ports]
  | .linkRunt _ | .interByteTimeout => [.eu, .llr]
  | .linkFreshnessExpiry => [.eu, .llr, .lst, .ports]
  | .postedFreshnessExpiry => [.eu, .lst, .ports]
  | .strobe _ => [.eu, .tsu, .ports]
  | .lossTimerExpiry _ => [.eu, .tsu]
  | .requestRecord _ _ | .waitTimerExpiry _ _ | .wordTaken _ | .refuseRecordMove _ | .requestWordTaken _ _ => [.ports]
  | .grant | .unitPlace | .stallExpiry => [.eu, .lst, .ports, .store, .me]
  | .eventPop _ | .summary _ | .mailboxDataWrite _ | .mailboxDataRead => [.cp, .eu]
  | .mailboxFlags _ | .mailboxSelect _ => [.cp]
  | .itemWriteIgnored _ _ => []
  | .setConfig => [.cp, .eu, .config]
  | .getConfig | .getStatusDetail | .readTimeline | .profileRead | .listProfiles | .badCommand => [.cp, .eu]
  | .resetCore => [.cp, .config, .eu, .llr, .lst, .tsu, .ports, .store, .me]
  | .runControl => [.cp, .eu, .me]
  | .portConfig => [.cp, .eu, .ports]
  | .portReset => [.cp, .eu, .lst, .tsu, .ports, .store, .me]
  | .postAttach | .postPosition | .postDetach | .setSource => [.cp, .eu, .lst, .ports]
  | .profileOpen | .profileNodes => [.cp, .eu, .store, .freeIndex]
  | .profileCommit | .profileDiscard => [.cp, .eu, .store]
  | .profileDelete => [.cp, .eu, .lst, .store]
  | .bindOverride => [.cp, .eu, .lst]

/-- The command leaves the block as it was. -/
abbrev Keeps (c : Instr) (b : Block) : Prop := (blocksOf c).contains b = false

theorem Block.same_refl (s : State) (b : Block) : b.same s s := by
  cases b <;> rfl

/-- A command handed over moves what its body moves, beside the response's two blocks. -/
theorem State.runCommand_same {s : State} {body : State → State} {b : Block} (c : Instr) (hcp : b ≠ .cp) (heu : b ≠ .eu)
    (h : b.same s (body s)) : b.same s (s.runCommand c body) := by
  rcases s.runCommand_cases c body with he | he | ⟨-, he⟩ <;> rw [he]
  · exact b.same_refl s
  · cases b <;> first | rfl | contradiction
  · exact h

/-! ### The mailbox commands (R172, R196) -/

/-- What a mailbox command does once it is executed. -/
def commandBody : Instr → Option (State → State)
  | .setConfig => some setConfigBody
  | .getConfig => some fun s =>
    s.respond .ok (s.config.toBytes ++ s.ports.mp0.config.toBytes ++ s.ports.mp1.config.toBytes)
  | .getStatusDetail => some fun s => s.respond .ok s.statusDetail
  | .resetCore => some fun s => s.coreReset.respond .ok (bytes32 s.time ++ [byteOf s.cp.resetCause.code])
  | .runControl => some runControlBody
  | .portConfig => some portConfigBody
  | .portReset => some portResetBody
  | .postAttach => some postAttachBody
  | .postPosition => some postPositionBody
  | .postDetach => some postDetachBody
  | .setSource => some setSourceBody
  | .readTimeline => some readTimelineBody
  | .profileOpen => some profileOpenBody
  | .profileNodes => some profileNodesBody
  | .profileCommit => some profileCommitBody
  | .profileDiscard => some profileDiscardBody
  | .profileDelete => some profileDeleteBody
  | .profileRead => some profileReadBody
  | .listProfiles => some fun s =>
    s.respond .ok
      ([byteOf s.store.staging.code, slotByte s.lst.override, slotByte s.store.boundSlot]
        ++ slotNumbers.flatMap s.slotEntry)
  | .bindOverride => some bindOverrideBody
  | .badCommand => some fun s => s.respond (if s.lengthInRange then .badCommand else .badLength) []
  | _ => none

/-- Executing a mailbox command is running its body, where the command is the one handed over. -/
theorem exec_eq_runCommand {c : Instr} {body : State → State} (h : commandBody c = some body) (s : State) :
    exec c s = .next (s.runCommand c body) := by
  cases c <;> cases h <;> rfl

/-- What a mailbox command's body leaves alone: in each of its branches the named operations keep the block. -/
theorem commandBody_frame {c : Instr} {body : State → State} (h : commandBody c = some body) (s : State) {b : Block}
    (hb : Keeps c b) : b.same s (body s) := by
  cases c <;> cases h <;> cases b
  all_goals first
    | exact Bool.noConfusion (show true = false from hb)
    | rfl
    | (simp only [Block.same, setConfigBody, runControlBody, portConfigBody, State.configure, portResetBody,
        postAttachBody, postPositionBody, State.postSample, postDetachBody, setSourceBody, readTimelineBody,
        profileOpenBody, profileNodesBody, profileCommitBody, State.commitTo, profileDiscardBody, profileDeleteBody,
        State.deleteSlot, profileReadBody, bindOverrideBody, State.setOverride, State.respondPost]
       (repeat' split) <;> simp)

/-- Every mailbox command answers in the response mailbox and posts RESPONSE_READY. -/
theorem commandBody_moves {c : Instr} {body : State → State} (h : commandBody c = some body) :
    ¬ Keeps c .cp ∧ ¬ Keeps c .eu := by
  cases c <;> first | exact ⟨Bool.noConfusion, Bool.noConfusion⟩ | cases h

/-- What a row that is no mailbox command leaves alone. -/
theorem exec_frame_of_event {c : Instr} {s t : State} (hc : commandBody c = none) (h : exec c s = .next t) {b : Block}
    (hb : Keeps c b) : b.same s t := by
  cases c <;> first | contradiction | skip
  case linkRunt bits =>
    simp only [exec, execLinkRunt] at h
    split at h <;> cases h
    cases b <;> first | exact Bool.noConfusion (show true = false from hb) | simp [Block.same]
  case itemWriteIgnored a v =>
    simp only [exec, execItemWriteIgnored] at h
    split at h <;> cases h
    exact b.same_refl _
  all_goals
    cases h
    cases b
  all_goals first
    | exact Bool.noConfusion (show true = false from hb)
    | rfl
    | (simp only [Block.same, State.unlessHeld]
       (repeat' split) <;> first | rfl | simp)

/-- A command moves no block but those that `blocksOf` lists for it. -/
theorem exec_frame {c : Instr} {s t : State} (h : exec c s = .next t) {b : Block} (hb : Keeps c b) : b.same s t := by
  cases hc : commandBody c with
  | some body =>
    rw [exec_eq_runCommand hc] at h
    cases h
    obtain ⟨hcp, heu⟩ := commandBody_moves hc
    exact State.runCommand_same c (fun he => hcp (he ▸ hb)) (fun he => heu (he ▸ hb)) (commandBody_frame hc s hb)
  | none => exact exec_frame_of_event hc h hb

end Sys2Proof.Machine
end

section
/-! PROOFS. What each mailbox command can do once it is executed: one lemma for each body. -/

namespace Sys2Proof.Machine

/-- The command answers, and changes nothing else but perhaps the counter of free values (log 12). -/
def State.Answers (s t : State) : Prop :=
  ∃ n st args, t = ({ s with freeIndex := n }).respond st args

theorem State.answers_respond (s : State) (st : Status) (args : List Byte) : s.Answers (s.respond st args) :=
  ⟨s.freeIndex, st, args, rfl⟩

theorem State.answers_badArgument (s : State) (n : Nat) : s.Answers (s.badArgument n) :=
  s.answers_respond _ _

theorem State.answers_drawAbsent (s : State) (n : Nat) : s.Answers (s.drawAbsent.badArgument n) := by
  unfold State.drawAbsent
  split
  · exact ⟨_, _, _, rfl⟩
  · exact s.answers_badArgument n

/-! ### Arguments -/

theorem foldl_bytes_lt (bs : List Byte) (n : Nat) :
    bs.foldl (fun n b => n * 256 + b.toNat) n < (n + 1) * 256 ^ bs.length := by
  induction bs generalizing n with
  | nil => simp
  | cons b bs ih =>
    calc bs.foldl (fun n b => n * 256 + b.toNat) (n * 256 + b.toNat)
        < (n * 256 + b.toNat + 1) * 256 ^ bs.length := ih _
      _ ≤ ((n + 1) * 256) * 256 ^ bs.length := Nat.mul_le_mul_right _ (by have := b.isLt; omega)
      _ = (n + 1) * 256 ^ (b :: bs).length := by rw [List.length_cons, Nat.pow_succ]; ring

theorem natOfBytes_lt (bs : List Byte) : natOfBytes bs < 256 ^ bs.length := by
  simpa [natOfBytes] using foldl_bytes_lt bs 0

/-- An argument of `n` bytes fits them. -/
theorem State.arg_lt (s : State) (a n : Nat) : s.arg a n < 256 ^ n := by
  simpa [State.arg, Memory.slice] using natOfBytes_lt (s.cp.cmdBox.slice a n)

theorem State.arg16_toNat (s : State) (a : Nat) : (s.arg16 a).toNat = s.arg a 2 := by
  rw [State.arg16, BitVec.toNat_ofNat, Nat.mod_eq_of_lt (by simpa using s.arg_lt a 2)]

/-- Numbered checks of which none fails all hold. -/
theorem firstFailing_none {checks : List (Nat × Bool)} (h : firstFailing checks = none) :
    ∀ c ∈ checks, c.2 = true := by
  induction checks with
  | nil => exact fun c hc => absurd hc List.not_mem_nil
  | cons c cs ih =>
    obtain ⟨n, ok⟩ := c
    unfold firstFailing at h
    split at h
    · exact List.forall_mem_cons.mpr ⟨‹_›, ih h⟩
    · cases h

/-! ### Configuration, engine and ports -/

theorem setConfigBody_cases (s : State) :
    s.Answers (setConfigBody s)
      ∨ (firstBadEntry 1 [] s.configEntries = none
          ∧ (s.anyEnabled && s.configEntries.any s.config.changesArray) = false
          ∧ ∃ args, setConfigBody s
              = ({ s with config := s.configEntries.foldl ConfigSet.apply s.config }).respond .ok args) := by
  unfold setConfigBody
  dsimp only
  split
  · exact .inl (s.answers_badArgument _)
  · split
    · exact .inl (s.answers_badArgument _)
    · rename_i hgood
      split
      · exact .inl (s.answers_respond _ _)
      · rename_i hactive
        exact .inr ⟨hgood, by simpa using hactive, _, rfl⟩

theorem runControlBody_cases (s : State) :
    s.Answers (runControlBody s)
      ∨ ∃ r args, runControlBody s = ({ s with me := { s.me with runState := r } }).respond .ok args := by
  unfold runControlBody
  split
  · exact .inl (s.answers_badArgument _)
  · exact .inr ⟨_, _, rfl⟩

/-- A configuration that `configure` accepts for a port (R136, checks 2 to 4). -/
def State.Configurable (s : State) (p : Port) (c : PortConfig) : Prop :=
  (c.enabled = true → s.config.width ≠ 0 ∧ s.config.height ≠ 0)
    ∧ ((s.port p).config.enabled = true → (s.port p).slots ≠ [] → c.sameButTiming (s.port p).config = true)
    ∧ (c.enabled = true → c.mode ≠ .command → templateFits c.template s.config = true)

theorem State.configure_cases (s : State) (p : Port) (c : PortConfig) :
    s.Answers (s.configure p c)
      ∨ (s.Configurable p c ∧ s.configure p c = (s.setPort p { s.port p with config := c }).respond .ok []) := by
  unfold State.configure
  dsimp only
  split
  · exact .inl (s.answers_badArgument _)
  · rename_i hset
    split
    · exact .inl (s.answers_respond _ _)
    · rename_i hactive
      split
      · exact .inl (s.answers_badArgument _)
      · rename_i hfits
        refine .inr ⟨⟨?_, ?_, ?_⟩, rfl⟩
        · simpa using hset
        · simpa using hactive
        · simpa using hfits

theorem portConfigBody_cases (s : State) :
    s.Answers (portConfigBody s)
      ∨ ∃ p c, 1 ≤ c.waitLimit.toNat ∧ 1 ≤ c.stallLimit.toNat ∧ s.Configurable p c
          ∧ portConfigBody s = (s.setPort p { s.port p with config := c }).respond .ok [] := by
  have limit : ∀ a, ¬ s.arg a 1 = 0 → 1 ≤ (BitVec.ofNat 8 (s.arg a 1)).toNat := fun a ha => by
    rw [BitVec.toNat_ofNat, Nat.mod_eq_of_lt (by simpa using s.arg_lt a 1)]
    omega
  unfold portConfigBody
  split
  · exact .inl (s.answers_badArgument _)
  · split
    · exact .inl (s.answers_badArgument _)
    · split
      · exact .inl (s.answers_badArgument _)
      · split
        · exact .inl (s.answers_badArgument _)
        · split
          · exact .inl (s.answers_badArgument _)
          · rename_i hwait
            split
            · exact .inl (s.answers_badArgument _)
            · rename_i hstall
              rcases s.configure_cases _ _ with h | ⟨hc, he⟩
              · exact .inl h
              · exact .inr ⟨_, _, limit 8 hwait, limit 9 hstall, hc, he⟩

theorem portResetBody_cases (s : State) :
    s.Answers (portResetBody s)
      ∨ ∃ p args, s.arg 4 1 = portCode p ∧ portResetBody s = (s.portReset p).respond .ok args := by
  unfold portResetBody portOf
  split
  · exact .inl (s.answers_badArgument _)
  · rename_i p hp
    refine .inr ⟨p, _, ?_, rfl⟩
    split_ifs at hp with h0 h1 <;> cases hp
    · exact h0
    · exact h1

/-! ### The tracker -/

theorem postAttachBody_cases (s : State) :
    s.Answers (postAttachBody s)
      ∨ (s.badAttachArgument = none
          ∧ ∃ args, postAttachBody s
              = (s.touchPosted.attach s.argAttach (s.postTime (s.arg 19 2)) .posted).1.respond .ok args) := by
  unfold postAttachBody
  split
  · exact .inl (s.answers_badArgument _)
  · exact .inr ⟨‹_›, _, rfl⟩

theorem State.postSample_eq (s : State) (x : Sample) :
    ∃ args, s.postSample x
      = ((if x.converter ≠ s.recordConverter then s.changeConverter x.converter else s).enterSample
          x).1.testCover.respond .ok args := by
  unfold State.postSample
  simp only [bne_iff_ne]
  exact ⟨_, rfl⟩

theorem postPositionBody_cases (s : State) :
    s.Answers (postPositionBody s)
      ∨ (s.attached = true
          ∧ ((s.touchPosted.lst.source = .posted ∧ postPositionBody s = s.touchPosted.postSample s.argSample)
              ∨ ∃ args, postPositionBody s = s.touchPosted.countIgnored.respond .ok args)) := by
  unfold postPositionBody
  dsimp only
  split
  · exact .inl (s.answers_badArgument _)
  · split
    · exact .inl (s.answers_respond _ _)
    · rename_i hatt
      refine .inr ⟨by simpa using hatt, ?_⟩
      split
      · exact .inl ⟨‹_›, rfl⟩
      · exact .inr ⟨_, rfl⟩

theorem postDetachBody_cases (s : State) :
    s.Answers (postDetachBody s)
      ∨ (s.attached = true ∧ ∃ args, postDetachBody s = s.touchPosted.detach.respond .ok args) := by
  unfold postDetachBody
  split
  · exact .inl (s.answers_respond _ _)
  · rename_i hatt
    exact .inr ⟨by simpa using hatt, _, rfl⟩

theorem setSourceBody_cases (s : State) :
    s.Answers (setSourceBody s)
      ∨ ∃ f args, setSourceBody s = (if s.lst.source = f then s else s.changeSource f false).respond .ok args := by
  unfold setSourceBody
  split
  · exact .inl (s.answers_badArgument _)
  · exact .inr ⟨_, _, rfl⟩

theorem readTimelineBody_answers (s : State) : s.Answers (readTimelineBody s) := by
  unfold readTimelineBody
  dsimp only
  split
  · exact s.answers_badArgument _
  · exact s.answers_respond _ _

/-! ### The profile store -/

theorem profileOpenBody_cases (s : State) :
    s.Answers (profileOpenBody s)
      ∨ (s.store.staging = .closed ∧ s.badOpenArgument (s.countArg 4) (s.countArg 5) = none
          ∧ ∃ args, profileOpenBody s
              = ({ s with
                  store := { s.store with
                    staging := .opened (.opening (s.argHeader (s.countArg 4) (s.countArg 5))) } }).respond .ok
                args) := by
  unfold profileOpenBody
  dsimp only
  split
  · exact .inl (s.answers_respond _ _)
  · rename_i hclosed
    split
    · exact .inl (s.answers_drawAbsent _)
    · rename_i hgood
      exact .inr ⟨by simpa using hclosed, hgood, _, rfl⟩

theorem profileNodesBody_cases (s : State) :
    s.Answers (profileNodesBody s)
      ∨ ∃ p first sets args, s.store.staging = .opened p
          ∧ profileNodesBody s
              = ({ s with
                  store := { s.store with
                    staging := .opened { p with table := writeSets p.table first sets } } }).respond .ok args := by
  unfold profileNodesBody
  split
  · rename_i p hp
    dsimp only
    split
    · exact .inl (s.answers_drawAbsent _)
    · exact .inr ⟨p, _, _, _, hp, rfl⟩
  · exact .inl (s.answers_respond _ _)

/-- What a PROFILE_COMMIT that passes every check commits: a table wholly written, every fill in range (R32). -/
theorem profileCommitBody_cases (s : State) :
    s.Answers (profileCommitBody s)
      ∨ ∃ p k, s.store.pendingOp = none ∧ s.store.staging = .opened p ∧ p.table.findIdx? Option.isNone = none
          ∧ p.table.findIdx? badFill = none ∧ s.commitTarget p.header = some k
          ∧ profileCommitBody s = s.commitTo k p := by
  unfold profileCommitBody
  split
  · exact .inl (s.answers_respond _ _)
  · rename_i hidle
    split
    · rename_i p hp
      split
      · exact .inl (s.answers_respond _ _)
      · rename_i hwritten
        split
        · exact .inl (s.answers_respond _ _)
        · rename_i hfilled
          split
          · exact .inl (s.answers_respond _ _)
          · rename_i k hk
            exact .inr ⟨p, k, by simpa using hidle, hp, hwritten, hfilled, hk, rfl⟩
    · exact .inl (s.answers_respond _ _)

theorem State.commitTo_cases (s : State) (k : Fin 16) (p : Staged) :
    (s.store.boundSlot = some k
        ∧ ∃ args, s.commitTo k p
            = ({ s with
                store := { s.store with staging := .committing p, pendingOp := some (.commit k) } }).respond
                .deferred args)
      ∨ (s.store.boundSlot ≠ some k ∧ ∃ args, s.commitTo k p = (s.applyCommit k p).respond .ok args) := by
  unfold State.commitTo
  split
  · exact .inl ⟨‹_›, _, rfl⟩
  · exact .inr ⟨‹_›, _, rfl⟩

theorem profileDiscardBody_cases (s : State) :
    s.Answers (profileDiscardBody s)
      ∨ ∃ op args, ((op = s.store.pendingOp ∧ ∃ p, s.store.staging = .opened p)
            ∨ (op = s.store.pendingOp.bind StoreOp.keepDelete ∧ ∃ p, s.store.staging = .committing p))
          ∧ profileDiscardBody s
              = ({ s with store := { s.store with staging := .closed, pendingOp := op } }).respond .ok args := by
  unfold profileDiscardBody
  split
  · exact .inl (s.answers_respond _ _)
  · rename_i p hp
    exact .inr ⟨_, _, .inl ⟨rfl, p, hp⟩, rfl⟩
  · rename_i p hp
    exact .inr ⟨_, _, .inr ⟨rfl, p, hp⟩, rfl⟩

theorem profileDeleteBody_cases (s : State) :
    s.Answers (profileDeleteBody s)
      ∨ ∃ k, s.store.pendingOp = none ∧ (s.profile? k).isSome = true ∧ profileDeleteBody s = s.deleteSlot k := by
  unfold profileDeleteBody
  split
  · exact .inl (s.answers_badArgument _)
  · rename_i k _
    split
    · exact .inl (s.answers_respond _ _)
    · rename_i hidle
      split
      · exact .inl (s.answers_respond _ _)
      · rename_i hfull
        exact .inr ⟨k, by simpa using hidle, by simpa [Option.isSome_iff_ne_none] using hfull, rfl⟩

theorem State.deleteSlot_cases (s : State) (k : Fin 16) :
    (s.store.boundSlot = some k
        ∧ ∃ args, s.deleteSlot k
            = ({ s with store := { s.store with pendingOp := some (.delete k) } }).respond .deferred args)
      ∨ (s.store.boundSlot ≠ some k ∧ ∃ args, s.deleteSlot k = (s.applyDelete k).respond .ok args) := by
  unfold State.deleteSlot
  split
  · exact .inl ⟨‹_›, _, rfl⟩
  · exact .inr ⟨‹_›, _, rfl⟩

theorem profileReadBody_answers (s : State) : s.Answers (profileReadBody s) := by
  unfold profileReadBody
  repeat' split
  all_goals exact s.answers_respond _ _

theorem bindOverrideBody_cases (s : State) :
    s.Answers (bindOverrideBody s)
      ∨ ∃ o args, (∀ k, o = some k → s.lst.record.isSome = true ∧ (s.profile? k).isSome = true)
          ∧ bindOverrideBody s = ({ s with lst := { s.lst with override := o } }).respond .ok args := by
  unfold bindOverrideBody
  split
  · exact .inr ⟨none, _, nofun, rfl⟩
  · split
    · exact .inl (s.answers_badArgument _)
    · rename_i k _
      split
      · exact .inl (s.answers_respond _ _)
      · rename_i hrec
        split
        · exact .inl (s.answers_respond _ _)
        · rename_i hfull
          refine .inr ⟨some k, _, fun j hj => ?_, rfl⟩
          cases hj
          exact ⟨by simpa [Option.isSome_iff_ne_none] using hrec, by simpa [Option.isSome_iff_ne_none] using hfull⟩

end Sys2Proof.Machine
end

section
/-! PROOFS. What the operations of the link and the tracker do to the event queue and to the ports. -/

namespace Sys2Proof.Machine

/-! ### The event queue grows at its end (R184) -/

/-- `v` holds what `u` held, in front of what was added, and keeps to 32 events where `u` did. -/
def EventUnit.Extends (u v : EventUnit) : Prop :=
  u.queue <+: v.queue ∧ (u.queue.length ≤ 32 → v.queue.length ≤ 32)

theorem EventUnit.Extends.refl (u : EventUnit) : u.Extends u := ⟨List.prefix_rfl, id⟩

theorem EventUnit.Extends.trans {u v w : EventUnit} (h : u.Extends v) (h' : v.Extends w) : u.Extends w :=
  ⟨h.1.trans h'.1, h'.2 ∘ h.2⟩

theorem EventUnit.extends_post (u : EventUnit) (m : Bool) (e : Event) : u.Extends (u.post m e) :=
  ⟨u.queue_prefix_post m e, u.length_post m e⟩

theorem State.extends_post (s : State) (k : EventKind) (v : Half) : s.eu.Extends (s.post k v).eu :=
  s.eu.extends_post _ _

theorem State.extends_respond (s : State) (st : Status) (args : List Byte) : s.eu.Extends (s.respond st args).eu :=
  s.eu.extends_post _ _

/-! ### Coverage waits end (R132) -/

/-- One request, as tests of the coverage waits may leave it. -/
def SettlesTo (f : Request → Request) : Prop :=
  ∀ r, f r = r ∨ (r.state = .pendingCover ∧ ∃ b, f r = r.makeReady b)

/-- The port has seen nothing but tests of its coverage waits. -/
def MeshPort.Settles (q q' : MeshPort) : Prop :=
  ∃ f, SettlesTo f ∧ q' = { q with slots := q.slots.map f }

theorem SettlesTo.comp {f g : Request → Request} (hf : SettlesTo f) (hg : SettlesTo g) : SettlesTo (g ∘ f) := by
  intro r
  rcases hf r with h | ⟨hr, b, h⟩
  · simpa only [Function.comp, h] using hg r
  · refine .inr ⟨hr, b, ?_⟩
    rcases hg (f r) with h' | ⟨hr', -⟩
    · rw [Function.comp, h', h]
    · rw [h] at hr'
      cases hr'

theorem MeshPort.Settles.refl (q : MeshPort) : q.Settles q :=
  ⟨id, fun _ => .inl rfl, by simp⟩

theorem MeshPort.Settles.trans {q q' q'' : MeshPort} (h : q.Settles q') (h' : q'.Settles q'') : q.Settles q'' := by
  obtain ⟨f, hf, rfl⟩ := h
  obtain ⟨g, hg, rfl⟩ := h'
  exact ⟨g ∘ f, hf.comp hg, by simp⟩

theorem State.settles_testCover (s : State) (p : Port) : (s.port p).Settles (s.testCover.port p) :=
  ⟨settleCover s, settleCover_cases s, s.testCover_port p⟩

/-! ### Both at once -/

/-- What an operation of the link or the tracker does outside `llr` and `lst`: events are posted, waits are tested. -/
structure State.LensEffect (s t : State) : Prop where
  events : s.eu.Extends t.eu
  ports : ∀ p, (s.port p).Settles (t.port p)

theorem State.LensEffect.refl (s : State) : s.LensEffect s := ⟨.refl _, fun _ => .refl _⟩

theorem State.LensEffect.trans {s t u : State} (h : s.LensEffect t) (h' : t.LensEffect u) : s.LensEffect u :=
  ⟨h.events.trans h'.events, fun p => (h.ports p).trans (h'.ports p)⟩

theorem State.LensEffect.of_eq {s t : State} (heu : t.eu = s.eu := by rfl) (hports : t.ports = s.ports := by rfl) :
    s.LensEffect t :=
  ⟨heu ▸ .refl _, fun p => State.port_of_ports hports p ▸ .refl _⟩

section
variable {s t : State}

/-! Each operation carries the relation on from the state it is applied to. -/

theorem State.LensEffect.post (h : s.LensEffect t) (k : EventKind) (v : Half) : s.LensEffect (t.post k v) :=
  h.trans ⟨t.extends_post k v, fun _ => .refl _⟩

theorem State.LensEffect.testCover (h : s.LensEffect t) : s.LensEffect t.testCover :=
  h.trans ⟨.refl _, t.settles_testCover⟩

theorem State.LensEffect.respond (h : s.LensEffect t) (st : Status) (args : List Byte) :
    s.LensEffect (t.respond st args) :=
  h.trans ⟨t.extends_respond st args, fun _ => .refl _⟩

/-- A change of other blocks. -/
theorem State.LensEffect.then_eq {u : State} (h : s.LensEffect t) (heu : u.eu = t.eu := by rfl)
    (hports : u.ports = t.ports := by rfl) : s.LensEffect u :=
  h.trans (.of_eq heu hports)

theorem State.LensEffect.changeSource (h : s.LensEffect t) (f : Feed) (b : Bool) : s.LensEffect (t.changeSource f b) :=
  .testCover (.post h.then_eq _ _)

theorem State.LensEffect.failover (h : s.LensEffect t) : s.LensEffect t.failover := by
  unfold State.failover
  split
  · exact h.changeSource _ _
  · exact h

theorem State.LensEffect.becomeStale (h : s.LensEffect t) (f : Feed) : s.LensEffect (t.becomeStale f) :=
  .testCover (.post (h.then_eq (t.setFresh_eu f _) (t.setFresh_ports f _)) _ _)

theorem State.LensEffect.becomeFresh (h : s.LensEffect t) (f : Feed) : s.LensEffect (t.becomeFresh f) :=
  .testCover (.post (h.then_eq (t.setFresh_eu f _) (t.setFresh_ports f _)) _ _)

theorem State.LensEffect.touchPosted (h : s.LensEffect t) : s.LensEffect t.touchPosted := by
  unfold State.touchPosted
  dsimp only
  split
  · exact h.then_eq
  · exact .failover (.becomeFresh h.then_eq _)

theorem State.LensEffect.profileCheck (h : s.LensEffect t) : s.LensEffect t.profileCheck := by
  unfold State.profileCheck
  split
  · exact h
  · split
    · exact h
    · exact h.post _ _

theorem State.LensEffect.enterSample (h : s.LensEffect t) (x : Sample) : s.LensEffect (t.enterSample x).1 :=
  h.then_eq (t.enterSample_eu x) (t.enterSample_ports x)

theorem State.LensEffect.attach (h : s.LensEffect t) (a : Attach) (x : Word) (f : Feed) :
    s.LensEffect (t.attach a x f).1 :=
  .testCover (.profileCheck (.post h.then_eq _ _))

theorem State.LensEffect.detach (h : s.LensEffect t) : s.LensEffect t.detach :=
  .testCover (.post h.then_eq _ _)

theorem State.LensEffect.changeConverter (h : s.LensEffect t) (c : BitVec 2) : s.LensEffect (t.changeConverter c) :=
  .profileCheck (.post h.then_eq _ _)

theorem State.LensEffect.heartbeat (h : s.LensEffect t) (x : Word) : s.LensEffect (t.heartbeat x) :=
  h.then_eq (t.heartbeat_eu x) (t.heartbeat_ports x)

theorem State.LensEffect.converterReport (h : s.LensEffect t) (c : BitVec 2) (x : Word) :
    s.LensEffect (t.converterReport c x) := by
  unfold State.converterReport
  split
  · exact h.heartbeat x
  · exact (h.changeConverter c).heartbeat x

theorem State.LensEffect.autoReturn (h : s.LensEffect t) (r : Report) (good : Nat) :
    s.LensEffect (t.autoReturn r good) := by
  unfold State.autoReturn
  split
  · exact h.changeSource _ _
  · exact h

theorem State.LensEffect.applyCurrent (h : s.LensEffect t) (r : Report) : s.LensEffect (t.applyCurrent r) := by
  cases r with
  | position f u x => exact h.enterSample _
  | heartbeat x => exact h.heartbeat x
  | converter c x => exact h.converterReport c x
  | attach a x => exact h
  | detach x => exact h

theorem State.LensEffect.countIgnored (h : s.LensEffect t) : s.LensEffect t.countIgnored := h.then_eq

/-- A report that is neither an attach nor a detach: the automatic return, then the report or the count of ignored. -/
theorem State.LensEffect.sourceTest (h : s.LensEffect t) (r : Report) (good : Nat) :
    s.LensEffect
      (if (t.autoReturn r good).attached && (t.autoReturn r good).lst.source == .link then
        ((t.autoReturn r good).applyCurrent r).testCover
      else (t.autoReturn r good).countIgnored) := by
  split
  · exact ((h.autoReturn r good).applyCurrent r).testCover
  · exact (h.autoReturn r good).countIgnored

theorem State.LensEffect.linkReport (h : s.LensEffect t) (r : Report) (good : Nat) :
    s.LensEffect (t.linkReport r good) := by
  cases r with
  | attach a x => exact h.attach a x .link
  | detach x =>
    unfold State.linkReport
    dsimp only
    split
    · exact h.detach
    · exact h.countIgnored
  | position f u x => exact h.sourceTest _ good
  | converter c x => exact h.sourceTest _ good
  | heartbeat x => exact h.sourceTest _ good

theorem State.LensEffect.checkError (h : s.LensEffect t) : s.LensEffect t.checkError := by
  unfold State.checkError
  dsimp only
  split
  · exact .post h.then_eq _ _
  · exact h.then_eq

theorem State.LensEffect.takeSequence (h : s.LensEffect t) (q : BitVec 4) : s.LensEffect (t.takeSequence q) := by
  unfold State.takeSequence
  dsimp only
  split
  · exact h.then_eq
  · exact .post h.then_eq _ _

theorem State.LensEffect.validFrame (h : s.LensEffect t) (r : Report) (gap : Nat) :
    s.LensEffect (t.validFrame r gap) := by
  unfold State.validFrame
  dsimp only
  refine .linkReport ?_ r _
  split
  · exact h.then_eq
  · exact .becomeFresh h.then_eq _

theorem State.LensEffect.intactFrame (h : s.LensEffect t) (bytes : List Byte) : s.LensEffect (t.intactFrame bytes) := by
  unfold State.intactFrame
  dsimp only
  split
  · exact (h.takeSequence _).then_eq
  · exact (h.takeSequence _).validFrame _ _

theorem State.LensEffect.byteInFrame (h : s.LensEffect t) (b : Byte) : s.LensEffect (t.byteInFrame b) := by
  unfold State.byteInFrame
  dsimp only
  split
  · split
    · exact h.intactFrame _
    · exact h.checkError
  · split
    · exact h.checkError
    · exact h.then_eq

theorem State.LensEffect.receiveByte (h : s.LensEffect t) (b : Byte) : s.LensEffect (t.receiveByte b) := by
  have hopen : s.LensEffect t.openFrame := h.then_eq
  unfold State.receiveByte
  split
  · exact h
  · split
    · split
      · exact hopen
      · exact h
    · split
      · exact hopen
      · exact h.checkError
    · exact h.byteInFrame b

theorem State.LensEffect.receiveRunt (h : s.LensEffect t) : s.LensEffect t.receiveRunt := by
  unfold State.receiveRunt
  split
  · exact h
  · split
    · exact h
    · exact h.checkError
    · exact h.checkError

end

/-! ### The POST commands and SET_SOURCE -/

theorem State.LensEffect.postSample {s t : State} (h : s.LensEffect t) (x : Sample) :
    s.LensEffect (t.postSample x) := by
  unfold State.postSample
  dsimp only
  refine .respond (.testCover (.enterSample ?_ x)) _ _
  split
  · exact h.changeConverter _
  · exact h

theorem lensEffect_postAttachBody (s : State) : s.LensEffect (postAttachBody s) := by
  unfold postAttachBody
  split
  · exact (State.LensEffect.refl s).respond _ _
  · exact .respond (.attach (State.LensEffect.refl s).touchPosted _ _ _) _ _

theorem lensEffect_postPositionBody (s : State) : s.LensEffect (postPositionBody s) := by
  have hs := State.LensEffect.refl s
  unfold postPositionBody
  dsimp only
  split
  · exact hs.respond _ _
  · split
    · exact hs.respond _ _
    · split
      · exact hs.touchPosted.postSample _
      · exact hs.touchPosted.countIgnored.respond _ _

theorem lensEffect_postDetachBody (s : State) : s.LensEffect (postDetachBody s) := by
  have hs := State.LensEffect.refl s
  unfold postDetachBody
  split
  · exact hs.respond _ _
  · exact hs.touchPosted.detach.respond _ _

theorem lensEffect_setSourceBody (s : State) : s.LensEffect (setSourceBody s) := by
  have hs := State.LensEffect.refl s
  unfold setSourceBody
  split
  · exact hs.respond _ _
  · refine .respond ?_ _ _
    split
    · exact hs
    · exact hs.changeSource _ _

/-- A mailbox command is at most a response and its body. -/
theorem State.lensEffect_runCommand {s : State} (c : Instr) {body : State → State} (h : s.LensEffect (body s)) :
    s.LensEffect (s.runCommand c body) := by
  rcases s.runCommand_cases c body with he | he | ⟨-, he⟩ <;> rw [he]
  · exact .refl s
  · exact (State.LensEffect.refl s).respond _ _
  · exact h

/-- The rows of the link and the tracker. -/
def isLensRow : Instr → Bool
  | .linkByte _ | .linkRunt _ | .interByteTimeout | .linkFreshnessExpiry | .postedFreshnessExpiry | .postAttach
  | .postPosition | .postDetach | .setSource => true
  | _ => false

/-- What the rows of the link and the tracker do to the event queue and the ports. -/
theorem exec_lensEffect {c : Instr} {s t : State} (hc : isLensRow c = true) (h : exec c s = .next t) :
    s.LensEffect t := by
  have hbits : s.LensEffect s.clearBits := .of_eq
  cases c with
  | linkByte b =>
    cases h
    exact hbits.receiveByte b
  | linkRunt bits =>
    simp only [exec, execLinkRunt] at h
    split at h <;> cases h
    exact hbits.receiveRunt
  | interByteTimeout =>
    cases h
    split
    · exact (State.LensEffect.refl s).checkError
    · exact .refl s
  | linkFreshnessExpiry =>
    cases h
    split
    · exact .failover (.becomeStale .of_eq _)
    · exact .refl s
  | postedFreshnessExpiry =>
    cases h
    split
    · exact .becomeStale .of_eq _
    · exact .refl s
  | postAttach => cases h; exact State.lensEffect_runCommand _ (lensEffect_postAttachBody s)
  | postPosition => cases h; exact State.lensEffect_runCommand _ (lensEffect_postPositionBody s)
  | postDetach => cases h; exact State.lensEffect_runCommand _ (lensEffect_postDetachBody s)
  | setSource => cases h; exact State.lensEffect_runCommand _ (lensEffect_setSourceBody s)
  | _ => cases hc

end Sys2Proof.Machine
end

section
/-! PROOFS. The event queue and the output FIFOs grow at their ends (R138, R184), and NOTIFYn (R189). -/

namespace Sys2Proof.Machine

/-! ### What grows -/

/-- The event queue and both output FIFOs keep what they hold, in front of what is added. -/
structure State.Grows (s t : State) : Prop where
  events : s.eu.Extends t.eu
  words : ∀ p, (s.port p).fifo <+: (t.port p).fifo

theorem State.Grows.refl (s : State) : s.Grows s := ⟨.refl _, fun _ => List.prefix_rfl⟩

theorem State.Grows.trans {s t u : State} (h : s.Grows t) (h' : t.Grows u) : s.Grows u :=
  ⟨h.events.trans h'.events, fun p => (h.words p).trans (h'.words p)⟩

/-- A test of the waits leaves the FIFO alone. -/
theorem MeshPort.Settles.fifo_eq {q q' : MeshPort} (h : q.Settles q') : q'.fifo = q.fifo := by
  obtain ⟨f, -, rfl⟩ := h
  rfl

theorem State.LensEffect.grows {s t : State} (h : s.LensEffect t) : s.Grows t :=
  ⟨h.events, fun p => (h.ports p).fifo_eq ▸ List.prefix_rfl⟩

section
variable {s t : State}

theorem State.Grows.then_eq {u : State} (h : s.Grows t) (hqueue : u.eu.queue = t.eu.queue := by rfl)
    (hports : u.ports = t.ports := by rfl) : s.Grows u := by
  refine h.trans ⟨?_, fun p => State.port_of_ports hports p ▸ List.prefix_rfl⟩
  rw [EventUnit.Extends, hqueue]
  exact EventUnit.Extends.refl t.eu

theorem State.Grows.post (h : s.Grows t) (k : EventKind) (v : Half) : s.Grows (t.post k v) :=
  h.trans ((State.LensEffect.refl t).post k v).grows

theorem State.Grows.respond (h : s.Grows t) (st : Status) (args : List Byte) : s.Grows (t.respond st args) :=
  h.trans ((State.LensEffect.refl t).respond st args).grows

/-- One port replaced by one whose FIFO goes on from its own. -/
theorem State.Grows.setPort (h : s.Grows t) (p : Port) (q : MeshPort) (hq : (t.port p).fifo <+: q.fifo) :
    s.Grows (t.setPort p q) := by
  refine h.trans ⟨.refl _, fun p' => ?_⟩
  rcases eq_or_other p p' with rfl | rfl
  · rwa [State.port_setPort]
  · rw [State.port_setPort_other]

/-- One port replaced by one with the same FIFO. -/
theorem State.Grows.setPort_same (h : s.Grows t) (p : Port) (q : MeshPort) (hq : q.fifo = (t.port p).fifo := by rfl) :
    s.Grows (t.setPort p q) :=
  h.setPort p q (hq ▸ List.prefix_rfl)

theorem State.Grows.push (h : s.Grows t) (p : Port) (ws : List Word) : s.Grows (t.push p ws) :=
  h.setPort p _ (List.prefix_append _ _)

/-! ### The store and the engine -/

theorem State.Grows.applyCommit (h : s.Grows t) (k : Fin 16) (c : Staged) : s.Grows (t.applyCommit k c) :=
  .post h.then_eq _ _

theorem State.Grows.applyDelete (h : s.Grows t) (k : Fin 16) : s.Grows (t.applyDelete k) :=
  .post h.then_eq _ _

theorem State.Grows.releaseStore (h : s.Grows t) : s.Grows t.releaseStore := by
  rcases t.releaseStore_cases with he | ⟨k, c, -, -, -, he⟩ | ⟨k, -, -, he⟩ <;> rw [he]
  · exact h.then_eq
  · exact (h.applyCommit k c).then_eq
  · exact (h.applyDelete k).then_eq

theorem State.Grows.release (h : s.Grows t) (p : Port) (k : Fin 4) : s.Grows (t.release p k) :=
  (h.setPort_same p ((t.port p).free k)).releaseStore.then_eq

theorem State.Grows.closeMesh (h : s.Grows t) (m : Mesh) (st : MeshStatus) : s.Grows (t.closeMesh m st) := by
  unfold State.closeMesh
  dsimp only
  split
  · exact .release (.post (h.push _ _) _ _) _ _
  · exact .release (h.push _ _) _ _

theorem State.Grows.holdUnit (h : s.Grows t) (m : Mesh) (u : MeshUnit) : s.Grows (t.holdUnit m u) := h.then_eq

theorem State.Grows.placeUnit (h : s.Grows t) (m : Mesh) : s.Grows (t.placeUnit m) := by
  rw [State.placeUnit_eq]
  split
  · exact (h.push _ _).then_eq
  · exact .closeMesh (h.push _ _) _ _

theorem State.Grows.grantHead (h : s.Grows t) (p : Port) (r : Request) : s.Grows (t.grantHead p r) := by
  unfold State.grantHead
  dsimp only
  split
  · exact .release (.setPort_same h.then_eq _ _) _ _
  · split
    · exact .placeUnit (.setPort_same h.then_eq _ _) _
    · exact .holdUnit (.setPort_same h.then_eq _ _) _ _

theorem State.Grows.stopMesh (h : s.Grows t) (p : Port) : s.Grows (t.stopMesh p) := by
  unfold State.stopMesh
  split
  · split
    · exact h.release _ _
    · exact h
  · exact h

/-! ### The ports -/

theorem State.Grows.resolvePending (h : s.Grows t) (p : Port) (rec : StrobeRecord) : s.Grows (t.resolvePending p rec) :=
  h.setPort_same p _

theorem State.Grows.makeStrobeRequest (h : s.Grows t) (p : Port) (rec : StrobeRecord) (k : Fin 4) :
    s.Grows (t.makeStrobeRequest p rec k) :=
  h.setPort_same p _

theorem State.Grows.dropStrobe (h : s.Grows t) (p : Port) : s.Grows (t.dropStrobe p) :=
  .post (h.setPort_same p _) _ _

theorem State.Grows.strobeRequest (h : s.Grows t) (p : Port) (rec : StrobeRecord) :
    s.Grows (t.strobeRequest p rec) := by
  unfold State.strobeRequest
  dsimp only
  split
  · exact h.dropStrobe p
  · split
    · exact h.makeStrobeRequest p rec _
    · split
      · exact .makeStrobeRequest (h.setPort_same p _) p rec _
      · exact h.dropStrobe p

theorem State.Grows.portStrobe (h : s.Grows t) (p : Port) (rec : StrobeRecord) : s.Grows (t.portStrobe p rec) := by
  unfold State.portStrobe
  dsimp only
  split
  · exact .setPort_same (.strobeRequest (h.resolvePending p rec) p rec) p _
  · exact h.resolvePending p rec

theorem State.Grows.postLock (h : s.Grows t) (p : Port) (l : LockReport) : s.Grows (t.postLock p l) := by
  cases l with
  | nothing => exact h
  | locked period => exact h.post _ _
  | lost => exact h.post _ _

theorem State.Grows.judgeRecord (h : s.Grows t) (p : Port) (f : RequestFields) : s.Grows (t.judgeRecord p f) := by
  unfold State.judgeRecord
  split
  · exact h.setPort_same p _
  · exact h.setPort_same p _
  · exact h.setPort_same p _

end

theorem MeshPort.expireWait_fifo (q : MeshPort) (r : Request) : (q.expireWait r).fifo = q.fifo := by
  unfold MeshPort.expireWait
  split <;> rfl

/-! ### The mailbox commands -/

theorem State.grows_runCommand {s : State} (c : Instr) {body : State → State} (h : s.Grows (body s)) :
    s.Grows (s.runCommand c body) := by
  rcases s.runCommand_cases c body with he | he | ⟨-, he⟩ <;> rw [he]
  · exact .refl s
  · exact (State.Grows.refl s).respond _ _
  · exact h

theorem State.Answers.grows {s t : State} (h : s.Answers t) : s.Grows t := by
  obtain ⟨n, st, args, rfl⟩ := h
  exact .respond (State.Grows.refl s).then_eq _ _

/-- The bodies that answer and post their own events alone, set up a port, or commit or delete a profile. -/
theorem grows_commandBody {c : Instr} {body : State → State} (h : commandBody c = some body) (hcore : c ≠ .resetCore)
    (hport : c ≠ .portReset) (s : State) : s.Grows (body s) := by
  have hs := State.Grows.refl s
  have answer (st : Status) (args : List Byte) : s.Grows (s.respond st args) := hs.respond st args
  cases c <;> cases h
  case resetCore => contradiction
  case portReset => contradiction
  case setConfig =>
    rcases setConfigBody_cases s with h | ⟨-, -, args, he⟩
    · exact h.grows
    · exact he ▸ .respond hs.then_eq _ _
  case runControl =>
    rcases runControlBody_cases s with h | ⟨r, args, he⟩
    · exact h.grows
    · exact he ▸ .respond hs.then_eq _ _
  case portConfig =>
    rcases portConfigBody_cases s with h | ⟨p, c, -, -, -, he⟩
    · exact h.grows
    · exact he ▸ .respond (hs.setPort_same p _) _ _
  case profileOpen =>
    rcases profileOpenBody_cases s with h | ⟨-, -, args, he⟩
    · exact h.grows
    · exact he ▸ .respond hs.then_eq _ _
  case profileNodes =>
    rcases profileNodesBody_cases s with h | ⟨p, first, sets, args, -, he⟩
    · exact h.grows
    · exact he ▸ .respond hs.then_eq _ _
  case profileCommit =>
    rcases profileCommitBody_cases s with h | ⟨p, k, -, -, -, -, -, he⟩
    · exact h.grows
    · rw [he]
      rcases s.commitTo_cases k p with ⟨-, args, he⟩ | ⟨-, args, he⟩
      · exact he ▸ .respond hs.then_eq _ _
      · exact he ▸ .respond (hs.applyCommit k p) _ _
  case profileDiscard =>
    rcases profileDiscardBody_cases s with h | ⟨op, args, -, he⟩
    · exact h.grows
    · exact he ▸ .respond hs.then_eq _ _
  case profileDelete =>
    rcases profileDeleteBody_cases s with h | ⟨k, -, -, he⟩
    · exact h.grows
    · rw [he]
      rcases s.deleteSlot_cases k with ⟨-, args, he⟩ | ⟨-, args, he⟩
      · exact he ▸ .respond hs.then_eq _ _
      · exact he ▸ .respond (hs.applyDelete k) _ _
  case bindOverride =>
    rcases bindOverrideBody_cases s with h | ⟨o, args, -, he⟩
    · exact h.grows
    · exact he ▸ .respond hs.then_eq _ _
  case postAttach => exact (lensEffect_postAttachBody s).grows
  case postPosition => exact (lensEffect_postPositionBody s).grows
  case postDetach => exact (lensEffect_postDetachBody s).grows
  case setSource => exact (lensEffect_setSourceBody s).grows
  case readTimeline => exact (readTimelineBody_answers s).grows
  case profileRead => exact (profileReadBody_answers s).grows
  case getConfig => exact answer _ _
  case getStatusDetail => exact answer _ _
  case listProfiles => exact answer _ _
  case badCommand => exact answer _ _

/-- A PORT n reset posts what the release of its mesh posts, and the response. -/
theorem extends_portResetBody (s : State) : s.eu.Extends (portResetBody s).eu := by
  rcases portResetBody_cases s with h | ⟨p, args, -, he⟩
  · exact h.grows.events
  · rw [he]
    exact ((State.Grows.refl s).stopMesh p).events.trans (State.extends_respond (s.portReset p) _ _)

/-! ### The reads with an effect (R185, R187) -/

/-- A read of SUMMARY leaves the queue alone. -/
theorem EventUnit.readEffect_queue {l : ReadLatch} (h : l.item = .summary) (u : EventUnit) :
    (u.readEffect l).queue = u.queue := by
  rw [EventUnit.readEffect, h]
  rfl

theorem State.Grows.readFinish {s t : State} (h : s.Grows t) : s.Grows (t.readFinish .summary) := by
  unfold State.readFinish
  split
  · split
    · exact h.then_eq (EventUnit.readEffect_queue ‹_› t.eu)
    · exact h
  · exact h

theorem State.Grows.readTransaction {s t : State} (h : s.Grows t) (ph : ReadPhase) :
    s.Grows (t.readTransaction .summary ph) := by
  cases ph with
  | whole => exact State.Grows.readFinish (t := t.readAddress .summary) h.then_eq
  | address => exact h.then_eq
  | finish => exact h.readFinish
  | cut => exact h.then_eq

/-- What a part held in a reset does not take. -/
theorem State.Grows.unlessHeld {s t : State} (h : s.Grows t) : s.Grows (s.unlessHeld t) := by
  unfold State.unlessHeld
  split
  · exact h
  · exact .refl s

/-! ### Every command -/

/-- But for the resets, a word taken and a pop, nothing that waits is removed or moved. -/
theorem exec_grows {c : Instr} {s t : State} (h : exec c s = .next t) (hpower : c ≠ .powerOn) (hpin : c ≠ .pinReset)
    (hcore : c ≠ .resetCore) (hport : c ≠ .portReset) (htaken : ∀ p, c ≠ .wordTaken p) (hpop : ∀ ph, c ≠ .eventPop ph) :
    s.Grows t := by
  have hs := State.Grows.refl s
  cases hb : commandBody c with
  | some body =>
    rw [exec_eq_runCommand hb] at h
    cases h
    exact State.grows_runCommand c (grows_commandBody hb hcore hport s)
  | none =>
    by_cases hl : isLensRow c = true
    · exact (exec_lensEffect hl h).grows
    cases c with
    | powerOn => contradiction
    | pinReset => contradiction
    | wordTaken p => exact absurd rfl (htaken p)
    | eventPop ph => exact absurd rfl (hpop ph)
    | initBusyClear =>
      cases h
      refine .unlessHeld ?_
      split
      · exact .post hs.then_eq _ _
      · exact hs
    | strobe p =>
      cases h
      split
      · exact hs
      · exact .portStrobe (.postLock hs.then_eq p _) p _
    | lossTimerExpiry p =>
      cases h
      split
      · exact .post hs.then_eq _ _
      · exact hs
    | requestRecord p w =>
      cases h
      dsimp only
      split
      · exact hs.judgeRecord p _
      · exact hs
    | requestWordTaken p w =>
      cases h
      dsimp only
      split
      · exact hs.setPort_same p _
      · exact hs
    | waitTimerExpiry p k =>
      cases h
      split
      · split
        · exact hs.setPort_same p _ ((s.port p).expireWait_fifo _)
        · exact hs
      · exact hs
    | refuseRecordMove p =>
      cases h
      dsimp only
      split
      · split
        · exact hs.setPort p _ (List.prefix_append _ _)
        · exact hs
      · exact hs
    | grant =>
      cases h
      split
      · split
        · exact hs.grantHead _ _
        · exact hs
      · exact hs
    | unitPlace =>
      cases h
      split
      · split
        · exact hs.placeUnit _
        · exact hs
      · exact hs
    | stallExpiry =>
      cases h
      split
      · split
        · exact hs.closeMesh _ _
        · exact hs
      · exact hs
    | summary ph =>
      cases h
      exact .unlessHeld (hs.readTransaction ph)
    | mailboxFlags v =>
      cases h
      exact .unlessHeld hs.then_eq
    | mailboxSelect v =>
      cases h
      exact .unlessHeld hs.then_eq
    | mailboxDataWrite b =>
      cases h
      refine .unlessHeld ?_
      split
      · exact hs.then_eq
      · exact hs.then_eq
    | mailboxDataRead =>
      cases h
      exact .unlessHeld hs.then_eq
    | itemWriteIgnored a v =>
      simp only [exec, execItemWriteIgnored] at h
      split at h <;> cases h
      exact hs
    | _ => first | exact absurd rfl hl | cases hb

/-! ### Posting and notifying (R182, R184, R189) -/

theorem EventUnit.post_unmasked {u : EventUnit} (h : u.queue.length < 32) (e : Event) :
    u.post false e = { u with queue := u.queue ++ [e] } :=
  if_pos h

theorem EventUnit.post_full {u : EventUnit} (h : 32 ≤ u.queue.length) (e : Event) :
    u.post false e = { u with overflow := true } :=
  if_neg (Nat.not_lt.mpr h)

theorem State.post_eu_of_masked (s : State) {k : EventKind} {v : Half} (h : s.config.mask.getLsbD k.code = true) :
    (s.post k v).eu = { s.eu with summary := s.eu.summary ||| BitVec.twoPow 17 k.code } := by
  rw [State.post, State.masked, h]
  rfl

theorem State.post_eu_of_unmasked (s : State) {k : EventKind} {v : Half}
    (h : ¬ s.config.mask.getLsbD k.code = true) : (s.post k v).eu = s.eu.post false ⟨k, v, s.time⟩ := by
  rw [State.post, State.masked, Bool.eq_false_iff.mpr h]

theorem EventKind.classH_iff (k : EventKind) :
    k.classH = true ↔ k ∈ [.resetDone, .lensAttached, .lensDetached, .converterChanged, .noProfile, .linkSilent,
      .sourceChanged, .strobeLost, .meshAbandoned, .responseReady] := by
  cases k <;> decide

/-- What stood in the queue stands there still, unless a reset or a pop has been taken. -/
theorem exec_queue_grows {c : Instr} {s t : State} (h : exec c s = .next t) (hpower : c ≠ .powerOn)
    (hpin : c ≠ .pinReset) (hcore : c ≠ .resetCore) (hpop : ∀ ph, c ≠ .eventPop ph) : s.eu.Extends t.eu := by
  have hs := State.Grows.refl s
  by_cases hport : c = .portReset
  · subst hport
    cases h
    rcases s.runCommand_cases .portReset portResetBody with he | he | ⟨-, he⟩ <;> rw [he]
    · exact .refl _
    · exact s.extends_respond _ _
    · exact extends_portResetBody s
  by_cases htaken : ∃ p, c = .wordTaken p
  · obtain ⟨p, rfl⟩ := htaken
    have heu : t.eu = s.eu := exec_frame h (b := .eu) rfl
    exact heu ▸ .refl _
  · exact (exec_grows h hpower hpin hcore hport (fun p he => htaken ⟨p, he⟩) hpop).events

theorem exec_fifo_grows {c : Instr} {s t : State} (h : exec c s = .next t) (hpower : c ≠ .powerOn)
    (hpin : c ≠ .pinReset) (hcore : c ≠ .resetCore) (hport : c ≠ .portReset)
    (htaken : ∀ p, c ≠ .wordTaken p) (p : Port) :
    (s.port p).fifo <+: (t.port p).fifo := by
  by_cases hpop : ∃ ph, c = .eventPop ph
  · obtain ⟨ph, rfl⟩ := hpop
    have hports : t.ports = s.ports := exec_frame h (b := .ports) rfl
    rw [State.port_of_ports hports]
  · exact (exec_grows h hpower hpin hcore hport htaken fun ph he => hpop ⟨ph, he⟩).words p

/-- Settles O52: what each command removes, then the branches of a posting, then the classes of the events queued. -/
theorem queuesGrowOnlyAtTheirEnds : Obligations.QueuesGrowOnlyAtTheirEnds := by
  refine ⟨fun c s t h hpower hpin hcore => ⟨fun hport htaken => ?words, fun hpop => ?events⟩,
    fun s kind param es => ⟨rfl, fun hm => ⟨?masked, fun n hn => ?summary⟩, fun hm hroom => ?appended,
      fun hm hfull => ?lost, rfl, ?postings⟩,
    fun s => ?notify⟩
  case words => exact exec_fifo_grows h hpower hpin hcore hport htaken
  case events => exact (exec_queue_grows h hpower hpin hcore hpop).1
  case masked =>
    rw [s.post_eu_of_masked hm]
  case summary =>
    rw [s.post_eu_of_masked hm]
    simp [hn]
    tauto
  case appended => rw [s.post_eu_of_unmasked hm, EventUnit.post_unmasked hroom]
  case lost => rw [s.post_eu_of_unmasked hm, EventUnit.post_full hfull]
  case postings => exact s.posting_append es [(kind, param)]
  case notify =>
    simp only [State.notifyAsserted, Bool.and_eq_true, Bool.not_eq_true', List.any_eq_true, Bool.or_eq_true,
      EventKind.classH_iff, or_comm]

end Sys2Proof.Machine
end

section
/-! PROOFS. What every step keeps: from commands to steps; the control port, the configuration set, the event queue,
the arbiter, the link receiver and the strobe units. -/

namespace Sys2Proof.Machine

/-! ### From commands to steps -/

/-- A step is a command, whatever then waits behind it, or the advance of the timebase. -/
theorem step_cases {s t : State} (h : step s = .next t) :
    (∃ c l, exec c { s with pending := l } = .next t) ∨ t = s.tick := by
  unfold step at h
  split at h
  · exact .inl ⟨_, _, h⟩
  · unfold idle at h
    split at h
    · exact .inl ⟨_, s.pending, h⟩
    · cases h
      exact .inr rfl

/-- A law that every command and the advance of the timebase keep, and that does not speak of the waiting commands,
is kept by every step. -/
theorem step_keeps {P : State → Prop} (hpending : ∀ s l, P s → P { s with pending := l })
    (hexec : ∀ c s t, exec c s = .next t → P s → P t) (htick : ∀ s, P s → P s.tick) {s t : State}
    (h : step s = .next t) (hs : P s) : P t := by
  rcases step_cases h with ⟨c, l, hc⟩ | rfl
  · exact hexec c _ _ hc (hpending s l hs)
  · exact htick s hs

/-- The advance of the timebase moves nothing else. -/
theorem State.tick_eq (s : State) : s.tick = { s with time := s.tick.time } := by
  unfold State.tick State.unlessHeld
  split <;> rfl

theorem State.tick_same (s : State) {b : Block} (hb : b ≠ .time) : b.same s s.tick := by
  rw [State.tick_eq]
  cases b <;> first | rfl | contradiction

/-! ### The configuration set (R175) -/

theorem ConfigSet.reset_inRange : ConfigSet.reset.inRange := by decide

/-- The values that R175 gives a parameter, `v` standing for parameter `n`. -/
def parameterAllows (n v : Nat) : Prop :=
  (n = 1 ∧ (v = 0 ∨ 64 ≤ v ∧ v ≤ 8192)) ∨ (n = 2 ∧ (v = 0 ∨ 64 ≤ v ∧ v ≤ 6144)) ∨ (n = 3 ∧ 2 ≤ v ∧ v ≤ 250)
    ∨ (n = 4 ∧ 10 ≤ v ∧ v ≤ 2000) ∨ (n = 5 ∧ v ≤ 1) ∨ (n = 6 ∧ v ≤ 1) ∨ (n = 7 ∧ v ≤ 65535) ∨ (n = 8 ∧ v ≤ 2)
    ∨ (n = 9 ∧ 1 ≤ v ∧ v ≤ 15) ∨ (n = 10 ∧ v ≤ 131071 ∧ v % 2 = 0) ∨ (n = 11 ∧ v ≤ 1)

theorem ConfigEntry.inRange_iff (e : ConfigEntry) : e.inRange = true ↔ parameterAllows e.parameter e.value := by
  unfold ConfigEntry.inRange parameterAllows
  dsimp only
  split
  case h_12 => 
    refine ⟨fun h => Bool.noConfusion h, fun h => ?_⟩
    rcases h with ⟨h, -⟩ | ⟨h, -⟩ | ⟨h, -⟩ | ⟨h, -⟩ | ⟨h, -⟩ | ⟨h, -⟩ | ⟨h, -⟩ | ⟨h, -⟩ | ⟨h, -⟩ | ⟨h, -⟩ | ⟨h, -⟩ <;>
      exact absurd h (by assumption)
  all_goals
    rename_i hn
    rw [hn]
    simp [Nat.lt_succ_iff]

/-- An entry within its parameter's values keeps every parameter within its values. -/
theorem ConfigSet.apply_inRange {c : ConfigSet} (hc : c.inRange) {n v : Nat} (h : parameterAllows n v) :
    (c.apply ⟨n, v⟩).inRange := by
  obtain ⟨hw, hh, hl, hl', hp, hp', hn, hn', hm⟩ := hc
  have h16 : v < 65536 → (BitVec.ofNat 16 v).toNat = v := fun h => by simpa using h
  have h8 : v < 256 → (BitVec.ofNat 8 v).toNat = v := fun h => by simpa using h
  have resized {hi : Nat} (hhi : hi < 65536) (h : v = 0 ∨ 64 ≤ v ∧ v ≤ hi) :
      BitVec.ofNat 16 v = 0 ∨ 64 ≤ (BitVec.ofNat 16 v).toNat ∧ (BitVec.ofNat 16 v).toNat ≤ hi := by
    rcases h with rfl | h
    · exact .inl rfl
    · exact .inr ((h16 (by omega)).symm ▸ h)
  rcases h with ⟨rfl, h⟩ | ⟨rfl, h⟩ | ⟨rfl, h⟩ | ⟨rfl, h⟩ | ⟨rfl, h⟩ | ⟨rfl, h⟩
    | ⟨rfl, h⟩ | ⟨rfl, h⟩ | ⟨rfl, h⟩ | ⟨rfl, h⟩ | ⟨rfl, h⟩
  · exact ⟨resized (by decide) h, hh, hl, hl', hp, hp', hn, hn', hm⟩
  · exact ⟨hw, resized (by decide) h, hl, hl', hp, hp', hn, hn', hm⟩
  · have hv := h8 (by omega)
    exact ⟨hw, hh, hv.symm ▸ h.1, hv.symm ▸ h.2, hp, hp', hn, hn', hm⟩
  · have hv := h16 (by omega)
    exact ⟨hw, hh, hl, hl', hv.symm ▸ h.1, hv.symm ▸ h.2, hn, hn', hm⟩
  · exact ⟨hw, hh, hl, hl', hp, hp', hn, hn', hm⟩
  · exact ⟨hw, hh, hl, hl', hp, hp', hn, hn', hm⟩
  · exact ⟨hw, hh, hl, hl', hp, hp', hn, hn', hm⟩
  · exact ⟨hw, hh, hl, hl', hp, hp', hn, hn', hm⟩
  · exact ⟨hw, hh, hl, hl', hp, hp', h.1, h.2, hm⟩
  · refine ⟨hw, hh, hl, hl', hp, hp', hn, hn', ?_⟩
    have hv : (BitVec.ofNat 17 v).getLsbD 0 = decide (v % 2 = 1) := by
      rw [BitVec.getLsbD_ofNat]
      exact Nat.testBit_zero v
    exact hv.trans (decide_eq_false (by omega))
  · exact ⟨hw, hh, hl, hl', hp, hp', hn, hn', hm⟩

theorem ConfigSet.foldl_apply_inRange {es : List ConfigEntry} (hes : ∀ e ∈ es, e.inRange = true) {c : ConfigSet}
    (hc : c.inRange) : (es.foldl ConfigSet.apply c).inRange := by
  induction es generalizing c with
  | nil => exact hc
  | cons e es ih =>
    have happlied := c.apply_inRange hc (e.inRange_iff.mp (hes e List.mem_cons_self))
    exact ih (fun e' he' => hes e' (List.mem_cons_of_mem _ he')) happlied

/-- Entries among which none is in error lie within their parameters' values. -/
theorem inRange_of_firstBadEntry {n : Nat} {before : List Nat} {es : List ConfigEntry}
    (h : firstBadEntry n before es = none) : ∀ e ∈ es, e.inRange = true := by
  induction es generalizing n before with
  | nil => exact fun e he => absurd he List.not_mem_nil
  | cons e es ih =>
    unfold firstBadEntry at h
    split at h
    · rename_i hgood
      rw [Bool.and_eq_true] at hgood
      exact List.forall_mem_cons.mpr ⟨hgood.1, ih h⟩
    · cases h

theorem setConfigBody_inRange {s : State} (hs : s.config.inRange) : (setConfigBody s).config.inRange := by
  rcases setConfigBody_cases s with ⟨n, st, args, he⟩ | ⟨hgood, -, args, he⟩ <;> rw [he]
  · exact hs
  · exact ConfigSet.foldl_apply_inRange (inRange_of_firstBadEntry hgood) hs

/-- A reset of the whole part ends in the reset state, holds in it, or has no effect. -/
theorem exec_reset_cases {c : Instr} {s t : State} (hc : c = .powerOn ∨ c = .pinReset) (h : exec c s = .next t) :
    let u : State := { s with resetPhases := s.resetPhases.tail }
    t = u ∨ (∃ cause, t = u.wholeReset cause) ∨ ∃ hold, hold ≠ .released ∧ t = u.heldReset hold := by
  intro u
  rcases hc with rfl | rfl
  · cases h
    dsimp only
    split
    · exact .inr (.inl ⟨_, rfl⟩)
    · exact .inr (.inr ⟨_, Hold.noConfusion, rfl⟩)
    · split
      · exact .inr (.inl ⟨_, rfl⟩)
      · exact .inl rfl
  · cases h
    dsimp only
    split
    · exact .inl rfl
    · split
      · exact .inr (.inl ⟨_, rfl⟩)
      · exact .inr (.inr ⟨_, Hold.noConfusion, rfl⟩)
      · split
        · exact .inr (.inl ⟨_, rfl⟩)
        · exact .inl rfl

/-- A mailbox command executed, where its body and the refusal of its length meet a law. -/
theorem State.runCommand_keeps {P : State → Prop} {s : State} (c : Instr) {body : State → State} (hs : P s)
    (hlength : P (s.respond .badLength [])) (hbody : P (body s)) : P (s.runCommand c body) := by
  rcases s.runCommand_cases c body with he | he | ⟨-, he⟩ <;> rw [he]
  · exact hs
  · exact hlength
  · exact hbody

theorem exec_keeps_config {c : Instr} {s t : State} (h : exec c s = .next t) (hs : s.config.inRange) :
    t.config.inRange := by
  have hreset : c = .powerOn ∨ c = .pinReset → t.config.inRange := fun hc => by
    rcases exec_reset_cases hc h with rfl | ⟨cause, rfl⟩ | ⟨hold, -, rfl⟩
    · exact hs
    · exact ConfigSet.reset_inRange
    · exact ConfigSet.reset_inRange
  cases c with
  | powerOn => exact hreset (.inl rfl)
  | pinReset => exact hreset (.inr rfl)
  | resetCore =>
    cases h
    exact State.runCommand_keeps (P := fun u => u.config.inRange) _ hs hs ConfigSet.reset_inRange
  | setConfig =>
    cases h
    exact State.runCommand_keeps (P := fun u => u.config.inRange) _ hs hs (setConfigBody_inRange hs)
  | _ => exact (exec_frame h (b := .config) rfl : t.config = s.config) ▸ hs

/-! ### The event queue (R184) -/

theorem EventUnit.pop_length (u : EventUnit) : u.pop.queue.length ≤ u.queue.length := by
  unfold EventUnit.pop
  split
  · exact le_rfl
  · rename_i h
    simp [h]

theorem EventUnit.readEffect_length (u : EventUnit) (l : ReadLatch) :
    (u.readEffect l).queue.length ≤ u.queue.length := by
  unfold EventUnit.readEffect
  split
  · split
    · exact u.pop_length
    · exact le_rfl
  · exact le_rfl

theorem State.readFinish_length (s : State) (i : EffectItem) :
    (s.readFinish i).eu.queue.length ≤ s.eu.queue.length := by
  unfold State.readFinish
  split
  · split
    · exact s.eu.readEffect_length _
    · exact le_rfl
  · exact le_rfl

theorem State.readTransaction_length (s : State) (i : EffectItem) (ph : ReadPhase) :
    (s.readTransaction i ph).eu.queue.length ≤ s.eu.queue.length := by
  cases ph with
  | whole => exact (s.readAddress i).readFinish_length i
  | address => exact le_rfl
  | finish => exact s.readFinish_length i
  | cut => exact le_rfl

theorem exec_keeps_queue {c : Instr} {s t : State} (h : exec c s = .next t) (hs : s.eu.queue.length ≤ 32) :
    t.eu.queue.length ≤ 32 := by
  have hreset : c = .powerOn ∨ c = .pinReset → t.eu.queue.length ≤ 32 := fun hc => by
    rcases exec_reset_cases hc h with rfl | ⟨cause, rfl⟩ | ⟨hold, -, rfl⟩
    · exact hs
    · exact Nat.zero_le _
    · exact Nat.zero_le _
  by_cases hpower : c = .powerOn
  · exact hreset (.inl hpower)
  by_cases hpin : c = .pinReset
  · exact hreset (.inr hpin)
  by_cases hcore : c = .resetCore
  · subst hcore
    cases h
    refine State.runCommand_keeps (P := fun u => u.eu.queue.length ≤ 32) _ hs ((s.extends_respond _ _).2 hs) ?_
    exact (State.extends_respond s.coreReset _ _).2 (EventUnit.length_post _ _ _ (Nat.zero_le _))
  by_cases hpop : ∃ ph, c = .eventPop ph
  · obtain ⟨ph, rfl⟩ := hpop
    cases h
    unfold State.unlessHeld
    split
    · exact (s.readTransaction_length _ ph).trans hs
    · exact hs
  · exact (exec_queue_grows h hpower hpin hcore fun ph he => hpop ⟨ph, he⟩).2 hs

end Sys2Proof.Machine
end

section
/-! PROOFS. Every mailbox command ends in one response (R173, R174); the mailboxes stay canonical (R169, R172). -/

namespace Sys2Proof.Machine

/-! ### One response (R173) -/

/-- The command ends in one response, from a state with the control port as it was; a refusal from the state in
which it was executed, the counter of free values apart (log 12). -/
def State.Responds (s t : State) : Prop :=
  ∃ u st args, t = u.respond st args ∧ u.cp = s.cp ∧ (st ≠ .ok → st ≠ .deferred → ∃ n, u = { s with freeIndex := n })

theorem State.Answers.responds {s t : State} (h : s.Answers t) : s.Responds t := by
  obtain ⟨n, st, args, rfl⟩ := h
  exact ⟨_, st, args, rfl, rfl, fun _ _ => ⟨n, rfl⟩⟩

theorem State.responds_ok {s u : State} (args : List Byte) (hcp : u.cp = s.cp) : s.Responds (u.respond .ok args) :=
  ⟨u, .ok, args, rfl, hcp, fun h => absurd rfl h⟩

theorem State.responds_deferred {s u : State} (args : List Byte) (hcp : u.cp = s.cp) :
    s.Responds (u.respond .deferred args) :=
  ⟨u, .deferred, args, rfl, hcp, fun _ h => absurd rfl h⟩

theorem State.responds_postSample (s : State) {t : State} (x : Sample) (hcp : t.cp = s.cp) :
    s.Responds (t.postSample x) := by
  obtain ⟨args, he⟩ := t.postSample_eq x
  rw [he]
  refine State.responds_ok _ (Eq.trans ?_ hcp)
  split <;> simp

/-- But for RESET_CORE, which writes into a control port of its own making. -/
theorem commandBody_responds {c : Instr} {body : State → State} (h : commandBody c = some body) (hcore : c ≠ .resetCore)
    (s : State) : s.Responds (body s) := by
  cases c <;> first | exact absurd rfl hcore | cases h
  case getConfig | getStatusDetail | listProfiles | badCommand => exact (s.answers_respond _ _).responds
  case readTimeline => exact (readTimelineBody_answers s).responds
  case profileRead => exact (profileReadBody_answers s).responds
  case setConfig =>
    rcases setConfigBody_cases s with h | ⟨-, -, args, he⟩
    · exact h.responds
    · exact he ▸ State.responds_ok args rfl
  case runControl =>
    rcases runControlBody_cases s with h | ⟨r, args, he⟩
    · exact h.responds
    · exact he ▸ State.responds_ok args rfl
  case portConfig =>
    rcases portConfigBody_cases s with h | ⟨p, c, -, -, -, he⟩
    · exact h.responds
    · exact he ▸ State.responds_ok [] rfl
  case portReset =>
    rcases portResetBody_cases s with h | ⟨p, args, -, he⟩
    · exact h.responds
    · exact he ▸ State.responds_ok args (by simp)
  case postAttach =>
    rcases postAttachBody_cases s with h | ⟨-, args, he⟩
    · exact h.responds
    · exact he ▸ State.responds_ok args (by simp)
  case postPosition =>
    rcases postPositionBody_cases s with h | ⟨-, ⟨-, he⟩ | ⟨args, he⟩⟩
    · exact h.responds
    · exact he ▸ s.responds_postSample _ (by simp)
    · exact he ▸ State.responds_ok args (by simp)
  case postDetach =>
    rcases postDetachBody_cases s with h | ⟨-, args, he⟩
    · exact h.responds
    · exact he ▸ State.responds_ok args (by simp)
  case setSource =>
    rcases setSourceBody_cases s with h | ⟨f, args, he⟩
    · exact h.responds
    · exact he ▸ State.responds_ok args (by split <;> simp)
  case profileOpen =>
    rcases profileOpenBody_cases s with h | ⟨-, -, args, he⟩
    · exact h.responds
    · exact he ▸ State.responds_ok args rfl
  case profileNodes =>
    rcases profileNodesBody_cases s with h | ⟨p, first, sets, args, -, he⟩
    · exact h.responds
    · exact he ▸ State.responds_ok args rfl
  case profileCommit =>
    rcases profileCommitBody_cases s with h | ⟨p, k, -, -, -, -, -, he⟩
    · exact h.responds
    · rcases s.commitTo_cases k p with ⟨-, args, he'⟩ | ⟨-, args, he'⟩
      · exact (he.trans he') ▸ State.responds_deferred args rfl
      · exact (he.trans he') ▸ State.responds_ok args (by simp)
  case profileDiscard =>
    rcases profileDiscardBody_cases s with h | ⟨op, args, -, he⟩
    · exact h.responds
    · exact he ▸ State.responds_ok args rfl
  case profileDelete =>
    rcases profileDeleteBody_cases s with h | ⟨k, -, -, he⟩
    · exact h.responds
    · rcases s.deleteSlot_cases k with ⟨-, args, he'⟩ | ⟨-, args, he'⟩
      · exact (he.trans he') ▸ State.responds_deferred args rfl
      · exact (he.trans he') ▸ State.responds_ok args (by simp)
  case bindOverride =>
    rcases bindOverrideBody_cases s with h | ⟨o, args, -, he⟩
    · exact h.responds
    · exact he ▸ State.responds_ok args rfl

/-- A mailbox command changes nothing, or ends in one response. -/
theorem exec_responds {c : Instr} {body : State → State} (hbody : commandBody c = some body) (hcore : c ≠ .resetCore)
    {s t : State} (h : exec c s = .next t) : t = s ∨ s.Responds t := by
  rw [exec_eq_runCommand hbody] at h
  cases h
  rcases s.runCommand_cases c body with he | he | ⟨-, he⟩ <;> rw [he]
  · exact .inl rfl
  · exact .inr (s.answers_respond _ _).responds
  · exact .inr (commandBody_responds hbody hcore s)

/-- Settles O53: a command that is not handed over runs no body, and every body answers. -/
theorem refusedCommandsChangeNothingElse : Obligations.RefusedCommandsChangeNothingElse := by
  intro c s t hc h
  obtain ⟨body, hbody⟩ : ∃ body, commandBody c = some body := by
    fin_cases hc <;> exact ⟨_, rfl⟩
  refine ⟨fun hidle => ?_, ?_⟩
  · have hready : s.commandReady = false := by
      unfold State.commandReady
      rcases hidle with h | h | h <;> simp [h]
    rw [exec_eq_runCommand hbody, State.runCommand_idle c body hready] at h
    cases h
    rfl
  · by_cases hcore : c = .resetCore
    · subst hcore
      cases h
      rcases s.runCommand_cases .resetCore _ with he | he | ⟨-, he⟩
      · exact .inl he
      · exact .inr ⟨s, .badLength, [], he, fun _ _ => ⟨s.freeIndex, rfl⟩⟩
      · exact .inr ⟨s.coreReset, .ok, _, he, fun h => absurd rfl h⟩
    · rcases exec_responds hbody hcore h with he | ⟨u, st, args, he, -, hrefused⟩
      · exact .inl he
      · exact .inr ⟨u, st, args, he, hrefused⟩

/-! ### The mailboxes (R169, R172) -/

/-- The law of `State.mailboxesSound`, of the control port alone. -/
abbrev ControlPort.boxesSound (c : ControlPort) : Prop :=
  c.cmdBox.wf = true ∧ c.rspBox.wf = true ∧ c.extent ≤ 256 ∧ c.offset ≤ 256

theorem State.respond_boxesSound {s : State} (hs : s.cp.boxesSound) (st : Status) (args : List Byte) :
    (s.respond st args).cp.boxesSound := by
  obtain ⟨hcmd, -, -, hoffset⟩ := hs
  exact ⟨hcmd, Memory.wf_holding _, Nat.zero_le _, hoffset⟩

theorem ControlPort.advance_boxesSound {c : ControlPort} (hc : c.boxesSound) : c.advance.boxesSound := by
  obtain ⟨hcmd, hrsp, hextent, -⟩ := hc
  exact ⟨hcmd, hrsp, hextent, min_le_left _ _⟩

theorem ControlPort.storeData_boxesSound {c : ControlPort} (hc : c.boxesSound) (b : Byte) :
    (c.storeData b).boxesSound := by
  obtain ⟨hcmd, hrsp, hextent, hoffset⟩ := hc
  unfold ControlPort.storeData
  split
  · refine ⟨Memory.wf_write hcmd _ _, hrsp, ?_, hoffset⟩
    dsimp only
    split
    · rename_i hlow
      exact max_le hextent hlow
    · exact hextent
  · exact ⟨hcmd, Memory.wf_write hrsp _ _, hextent, hoffset⟩

/-- A read with an effect moves the latch and MISO alone. -/
theorem State.readFinish_boxesSound {s : State} (hs : s.cp.boxesSound) (i : EffectItem) :
    (s.readFinish i).cp.boxesSound := by
  unfold State.readFinish
  repeat' split
  all_goals exact hs

theorem State.readTransaction_boxesSound {s : State} (hs : s.cp.boxesSound) (i : EffectItem) (ph : ReadPhase) :
    (s.readTransaction i ph).cp.boxesSound := by
  cases ph with
  | whole => exact State.readFinish_boxesSound (s := s.readAddress i) hs i
  | address => exact hs
  | finish => exact State.readFinish_boxesSound hs i
  | cut => exact hs

theorem State.unlessHeld_keeps {P : State → Prop} {s t : State} (hs : P s) (ht : P t) : P (s.unlessHeld t) := by
  unfold State.unlessHeld
  split
  · exact ht
  · exact hs

theorem exec_keeps_mailboxes {c : Instr} {s t : State} (h : exec c s = .next t) (hs : s.cp.boxesSound) :
    t.cp.boxesSound := by
  have hreset : c = .powerOn ∨ c = .pinReset → t.cp.boxesSound := fun hc => by
    rcases exec_reset_cases hc h with rfl | ⟨cause, rfl⟩ | ⟨hold, -, rfl⟩
    · exact hs
    · exact ⟨rfl, rfl, Nat.zero_le _, Nat.zero_le _⟩
    · exact ⟨rfl, rfl, Nat.zero_le _, Nat.zero_le _⟩
  cases hbody : commandBody c with
  | some body =>
    by_cases hcore : c = .resetCore
    · subst hcore
      cases h
      have hcoreReset : s.coreReset.cp.boxesSound := by
        obtain ⟨hcmd, hrsp, hextent, -⟩ := hs
        exact ⟨hcmd, hrsp, hextent, Nat.zero_le _⟩
      exact State.runCommand_keeps (P := fun u => u.cp.boxesSound) _ hs (s.respond_boxesSound hs _ _)
        (s.coreReset.respond_boxesSound hcoreReset _ _)
    · rcases exec_responds hbody hcore h with rfl | ⟨u, st, args, rfl, hcp, -⟩
      · exact hs
      · exact u.respond_boxesSound (hcp ▸ hs) _ _
  | none =>
    have held {u : State} (hu : u.cp.boxesSound) : (s.unlessHeld u).cp.boxesSound :=
      State.unlessHeld_keeps (P := fun u => u.cp.boxesSound) hs hu
    cases c <;> first | contradiction | skip
    case powerOn => exact hreset (.inl rfl)
    case pinReset => exact hreset (.inr rfl)
    case initBusyClear =>
      cases h
      refine held ?_
      split <;> exact hs
    case eventPop ph =>
      cases h
      exact held (State.readTransaction_boxesSound hs _ ph)
    case summary ph =>
      cases h
      exact held (State.readTransaction_boxesSound hs _ ph)
    case mailboxFlags v =>
      cases h
      exact held hs
    case mailboxSelect v =>
      cases h
      obtain ⟨hcmd, hrsp, hextent, -⟩ := hs
      exact held ⟨hcmd, hrsp, hextent, min_le_left _ _⟩
    case mailboxDataWrite b =>
      cases h
      refine held ?_
      split
      · exact ControlPort.advance_boxesSound hs
      · exact ControlPort.advance_boxesSound (ControlPort.storeData_boxesSound hs b)
    case mailboxDataRead =>
      cases h
      exact held (ControlPort.advance_boxesSound hs)
    all_goals exact (exec_frame h (b := .cp) rfl : t.cp = s.cp) ▸ hs

end Sys2Proof.Machine
end

section
/-! PROOFS. What the engine's commands do to the engine itself: release, placing, grant (R147, R149, R153, R156). -/

namespace Sys2Proof.Machine

/-! ### The engine after each operation -/

theorem State.release_me (s : State) (p : Port) (k : Fin 4) : (s.release p k).me = { s.me with mesh := none } := by
  unfold State.release
  simp

theorem State.closeMesh_me (s : State) (m : Mesh) (st : MeshStatus) :
    (s.closeMesh m st).me = { s.me with mesh := none } := by
  unfold State.closeMesh
  dsimp only
  rw [State.release_me]
  split <;> rfl

/-- A unit placed: the next row is reached, or the mesh is released (R153). -/
theorem State.placeUnit_me (s : State) (m : Mesh) :
    ((s.placeUnit m).me = { s.me with mesh := none })
      ∨ (m.placed.cursor < m.request.nr ∧ ∃ changed u timer, (s.placeUnit m).me
          = { s.me with
              mesh := some { m.placed with epochChanged := changed, unit := u, stallTimer := timer } }) := by
  rw [State.placeUnit_eq]
  split
  · exact .inr ⟨‹_›, _, _, _, rfl⟩
  · exact .inl (State.closeMesh_me _ _ _)

/-- A grant: refused at the bind, or the mesh formed and its header placed or held (R149 to R152). -/
theorem State.grantHead_me (s : State) (p : Port) (r : Request) :
    let m := newMesh s p r (s.bind (s.centreConverter r))
    (s.grantHead p r).me = { s.me.granted p with mesh := none }
      ∨ ∃ cursor changed nodes saturated flagged u timer, cursor ≤ m.request.nr ∧ (s.grantHead p r).me
          = { s.me.granted p with
              mesh := some { m with
                cursor := cursor, epochChanged := changed, nodes := nodes, saturated := saturated, flagged := flagged
                unit := u, stallTimer := timer } } := by
  intro m
  unfold State.grantHead
  dsimp only
  split
  · exact .inl (State.release_me _ _ _)
  · split
    · rcases State.placeUnit_me _ m with he | ⟨hrow, changed, u, timer, he⟩
      · exact .inl he
      · exact .inr ⟨_, changed, _, _, _, u, timer, hrow.le, he⟩
    · exact .inr ⟨0, _, _, _, _, _, _, Nat.zero_le _, rfl⟩

theorem State.stopMesh_me (s : State) (p : Port) :
    (s.stopMesh p).me = { s.me with mesh := none } ∨ s.stopMesh p = s := by
  unfold State.stopMesh
  split
  · split
    · exact .inl (State.release_me _ _ _)
    · exact .inr rfl
  · exact .inr rfl

/-! ### The law of the engine (R147, R149, R153) -/

theorem Engine.sound_idle {e : Engine} (he : e.consecutive ≤ 15) : { e with mesh := none }.sound :=
  ⟨he, fun _ h => nomatch h⟩

theorem Engine.granted_consecutive (e : Engine) (p : Port) : (e.granted p).consecutive ≤ 15 := by
  unfold Engine.granted
  dsimp only
  split <;> omega

theorem State.placeUnit_sound {s : State} {m : Mesh} (hs : s.me.consecutive ≤ 15) (hm : m.request.state = .inEngine) :
    (s.placeUnit m).me.sound := by
  obtain ⟨-, hreq, -⟩ := m.placed_frame
  rcases s.placeUnit_me m with he | ⟨hrow, changed, u, timer, he⟩ <;> rw [he]
  · exact Engine.sound_idle hs
  · refine ⟨hs, fun m' hm' => ?_⟩
    cases hm'
    dsimp only
    rw [hreq]
    exact ⟨hm, hrow.le⟩

theorem State.grantHead_sound (s : State) (p : Port) (r : Request) : (s.grantHead p r).me.sound := by
  rcases s.grantHead_me p r with he | ⟨cursor, changed, nodes, saturated, flagged, u, timer, hrow, he⟩ <;> rw [he]
  · exact Engine.sound_idle (s.me.granted_consecutive p)
  · refine ⟨s.me.granted_consecutive p, fun m' hm' => ?_⟩
    cases hm'
    exact ⟨rfl, hrow⟩

theorem State.stopMesh_sound {s : State} (hs : s.me.sound) (p : Port) : (s.stopMesh p).me.sound := by
  rcases s.stopMesh_me p with he | he <;> rw [he]
  · exact Engine.sound_idle hs.1
  · exact hs

theorem exec_keeps_engine {c : Instr} {s t : State} (h : exec c s = .next t) (hs : s.me.sound) : t.me.sound := by
  have hidle : Engine.reset.sound := ⟨Nat.zero_le _, fun _ h => nomatch h⟩
  have hreset : c = .powerOn ∨ c = .pinReset → t.me.sound := fun hc => by
    rcases exec_reset_cases hc h with rfl | ⟨cause, rfl⟩ | ⟨hold, -, rfl⟩
    · exact hs
    · exact hidle
    · exact hidle
  have command {c : Instr} {body : State → State} (hbody : (body s).me.sound) : (s.runCommand c body).me.sound :=
    State.runCommand_keeps (P := fun u => u.me.sound) c hs hs hbody
  cases c with
  | powerOn => exact hreset (.inl rfl)
  | pinReset => exact hreset (.inr rfl)
  | resetCore =>
    cases h
    exact command hidle
  | runControl =>
    cases h
    refine command ?_
    rcases runControlBody_cases s with ⟨n, st, args, he⟩ | ⟨r, args, he⟩ <;> rw [he] <;> exact hs
  | portReset =>
    cases h
    refine command ?_
    rcases portResetBody_cases s with ⟨n, st, args, he⟩ | ⟨p, args, -, he⟩ <;> rw [he]
    · exact hs
    · exact s.stopMesh_sound hs p
  | grant =>
    cases h
    split
    · split
      · exact s.grantHead_sound _ _
      · exact hs
    · exact hs
  | unitPlace =>
    cases h
    split
    · rename_i m hm
      split
      · exact State.placeUnit_sound hs.1 (hs.2 m hm).1
      · exact hs
    · exact hs
  | stallExpiry =>
    cases h
    split
    · split
      · rw [State.closeMesh_me]
        exact Engine.sound_idle hs.1
      · exact hs
    · exact hs
  | _ => exact (exec_frame h (b := .me) rfl : t.me = s.me) ▸ hs

end Sys2Proof.Machine
end

section
/-! PROOFS. The link receiver and the strobe units keep their laws (R51 to R55, R62, R98 to R102); O59. -/

namespace Sys2Proof.Machine

/-! ### The link receiver -/

theorem LinkReceiver.reset_sound : LinkReceiver.reset.sound := by decide

/-- A receiver outside a frame keeps its law, whatever its counts within their ranges. -/
theorem LinkReceiver.sound_of_rest {l : LinkReceiver} (hrx : l.rx ≠ .inFrame) (hframe : l.frame = [])
    (htimer : l.byteTimer = none) (hrun : l.errorRun ≤ 2) (hgood : l.good ≤ 3) : l.sound :=
  ⟨fun h => absurd h hrx, fun _ => ⟨hframe, htimer⟩, hrun, hgood⟩

theorem State.checkError_llr (s : State) :
    s.checkError.llr = { s.llr with
      rx := .hunt, frame := [], byteTimer := none, checkErrors := satAdd s.llr.checkErrors 1
      errorRun := if s.llr.errorRun + 1 = 3 then 0 else s.llr.errorRun + 1, good := 0 } := by
  unfold State.checkError
  dsimp only
  split <;> rfl

theorem State.checkError_sound {s : State} (hs : s.llr.sound) : s.checkError.llr.sound := by
  obtain ⟨-, -, hrun, -⟩ := hs
  rw [State.checkError_llr]
  refine LinkReceiver.sound_of_rest RxState.noConfusion rfl rfl ?_ (Nat.zero_le _)
  dsimp only
  split <;> omega

theorem State.takeSequence_llr (s : State) (q : BitVec 4) :
    (s.takeSequence q).llr = { s.llr with
      rx := .idle, frame := [], byteTimer := none, errorRun := 0, expected := some (q + 1)
      gaps := satAdd s.llr.gaps (sequenceGap s.llr.expected q) } := by
  unfold State.takeSequence
  dsimp only
  split <;> rfl

/-- The good count holds at 3 (R62). -/
theorem goodAfter_le {good : Nat} (h : good ≤ 3) (r : Report) (gap : Nat) : goodAfter good r gap ≤ 3 := by
  unfold goodAfter
  split
  · split <;> omega
  · exact h

theorem State.validFrame_llr (s : State) (r : Report) (gap : Nat) :
    (s.validFrame r gap).llr = { s.llr with
      good := goodAfter s.llr.good r gap
      freshTimer := some (expiry s.time (millis s.config.linkSilence.toNat)), fresh := true } := by
  unfold State.validFrame
  dsimp only
  split
  · rename_i hfresh
    rw [State.linkReport_llr, ← hfresh]
  · rw [State.linkReport_llr]
    rfl

theorem State.intactFrame_sound {s : State} (hs : s.llr.sound) (bytes : List Byte) :
    (s.intactFrame bytes).llr.sound := by
  obtain ⟨-, -, -, hgood⟩ := hs
  unfold State.intactFrame
  dsimp only
  split
  · show ({ (s.takeSequence _).llr with malformed := _, good := 0 } : LinkReceiver).sound
    rw [State.takeSequence_llr]
    exact LinkReceiver.sound_of_rest RxState.noConfusion rfl rfl (Nat.zero_le _) (Nat.zero_le _)
  · rw [State.validFrame_llr, State.takeSequence_llr]
    exact LinkReceiver.sound_of_rest RxState.noConfusion rfl rfl (Nat.zero_le _) (goodAfter_le hgood _ _)

theorem State.openFrame_sound {s : State} (hs : s.llr.sound) : s.openFrame.llr.sound := by
  obtain ⟨-, -, hrun, hgood⟩ := hs
  exact ⟨fun _ => ⟨rfl, fun h => absurd h (Nat.not_succ_le_zero 1)⟩, fun h => absurd rfl h, hrun, hgood⟩

/-- A byte that is neither the CHECK byte nor a LEN above 15 keeps the frame within its announced length. -/
theorem State.storeByte_sound {s : State} (hs : s.llr.sound) (hrx : s.llr.rx = .inFrame) {b : Byte}
    (hcheck : isCheckByte s.llr.frame = false) (hlen : ¬ (s.llr.frame.length = 1 ∧ 15 < b.toNat)) :
    (s.storeByte b).llr.sound := by
  obtain ⟨hframe, -, hrun, hgood⟩ := hs
  obtain ⟨-, hbytes⟩ := hframe hrx
  refine ⟨fun _ => ⟨rfl, fun h => ?_⟩, fun h => absurd hrx h, hrun, hgood⟩
  change ((s.llr.frame ++ [b]).getD 1 0).toNat ≤ 15
    ∧ (s.llr.frame ++ [b]).length ≤ 2 + ((s.llr.frame ++ [b]).getD 1 0).toNat
  change 2 ≤ (s.llr.frame ++ [b]).length at h
  rw [List.length_append, List.length_singleton] at h ⊢
  rcases Nat.lt_or_ge s.llr.frame.length 2 with hshort | hlong
  · have hone : s.llr.frame.length = 1 := by omega
    have hb : (s.llr.frame ++ [b]).getD 1 0 = b := by
      rw [List.getD_append_right _ _ _ _ (by omega), hone]
      rfl
    rw [hb]
    omega
  · obtain ⟨hmax, hin⟩ := hbytes hlong
    simp only [isCheckByte, hlong, decide_true, Bool.true_and, decide_eq_false_iff_not] at hcheck
    rw [List.getD_append _ _ _ _ hlong]
    omega

theorem State.byteInFrame_sound {s : State} (hs : s.llr.sound) (hrx : s.llr.rx = .inFrame) (b : Byte) :
    (s.byteInFrame b).llr.sound := by
  unfold State.byteInFrame
  dsimp only
  split
  · split
    · exact s.intactFrame_sound hs _
    · exact s.checkError_sound hs
  · rename_i hcheck
    split
    · exact s.checkError_sound hs
    · rename_i hlen
      exact s.storeByte_sound hs hrx (by simpa using hcheck) hlen

theorem State.receiveByte_sound {s : State} (hs : s.llr.sound) (b : Byte) : (s.receiveByte b).llr.sound := by
  unfold State.receiveByte
  split
  · exact hs
  · split
    · split
      · exact s.openFrame_sound hs
      · exact hs
    · split
      · exact s.openFrame_sound hs
      · exact s.checkError_sound hs
    · exact s.byteInFrame_sound hs ‹_› b

theorem State.receiveRunt_sound {s : State} (hs : s.llr.sound) : s.receiveRunt.llr.sound := by
  unfold State.receiveRunt
  split
  · exact hs
  · split
    · exact hs
    · exact s.checkError_sound hs
    · exact s.checkError_sound hs

theorem exec_keeps_receiver {c : Instr} {s t : State} (h : exec c s = .next t) (hs : s.llr.sound) : t.llr.sound := by
  have hreset : c = .powerOn ∨ c = .pinReset → t.llr.sound := fun hc => by
    rcases exec_reset_cases hc h with rfl | ⟨cause, rfl⟩ | ⟨hold, -, rfl⟩
    · exact hs
    · exact LinkReceiver.reset_sound
    · exact LinkReceiver.reset_sound
  cases c with
  | powerOn => exact hreset (.inl rfl)
  | pinReset => exact hreset (.inr rfl)
  | resetCore =>
    cases h
    exact State.runCommand_keeps (P := fun u => u.llr.sound) _ hs hs LinkReceiver.reset_sound
  | linkByte b =>
    cases h
    exact State.receiveByte_sound (s := s.clearBits) hs b
  | linkRunt bits =>
    simp only [exec, execLinkRunt] at h
    split at h <;> cases h
    exact State.receiveRunt_sound (s := s.clearBits) hs
  | interByteTimeout =>
    cases h
    split
    · exact s.checkError_sound hs
    · exact hs
  | linkFreshnessExpiry =>
    cases h
    split
    · rw [State.failover_llr]
      obtain ⟨hin, hout, hrun, -⟩ := hs
      exact ⟨hin, hout, hrun, Nat.zero_le _⟩
    · exact hs
  | _ => exact (exec_frame h (b := .llr) rfl : t.llr = s.llr) ▸ hs

/-! ### The table of strobe records (R99) -/

theorem framesInOrder_iff (rs : List StrobeRecord) :
    framesInOrder rs ↔ rs.IsChain fun a b => b.frame = a.frame + 1 := by
  induction rs with
  | nil => exact ⟨fun _ => .nil, fun _ => trivial⟩
  | cons a rs ih =>
    cases rs with
    | nil => exact ⟨fun _ => .singleton a, fun _ => trivial⟩
    | cons b rs =>
      rw [List.isChain_cons_cons]
      exact and_congr_right' ih

/-- A full list drops its oldest and keeps its newest. -/
theorem getLast?_drop_one {α : Type} {l : List α} (h : 2 ≤ l.length) : (l.drop 1).getLast? = l.getLast? := by
  rw [List.getLast?_drop, if_neg (by omega)]

theorem enterRecord_length {table : List StrobeRecord} (h : table.length ≤ 8) (rec : StrobeRecord) :
    (enterRecord table rec).length ≤ 8 := by
  unfold enterRecord
  rw [List.length_append, List.length_singleton]
  split
  · rw [List.length_drop]
    omega
  · rename_i hroom
    have : table.length < 8 := by simpa [Config.tableCapacity] using hroom
    omega

theorem getLast?_enterRecord (table : List StrobeRecord) (rec : StrobeRecord) :
    (enterRecord table rec).getLast? = some rec := by
  unfold enterRecord
  exact List.getLast?_concat

theorem framesInOrder_enterRecord {table : List StrobeRecord} {rec : StrobeRecord} (h : framesInOrder table)
    (hnext : ∀ r, table.getLast? = some r → rec.frame = r.frame + 1) : framesInOrder (enterRecord table rec) := by
  rw [framesInOrder_iff] at h ⊢
  unfold enterRecord
  refine List.isChain_append.mpr ⟨?_, .singleton rec, ?_⟩
  · split
    · exact h.drop 1
    · exact h
  · intro a ha b hb
    cases hb
    refine hnext a ?_
    split at ha
    · rename_i hfull
      have hfull : 8 ≤ table.length := hfull
      rwa [getLast?_drop_one (by omega)] at ha
    · exact ha

/-! ### The lock machine (R101, R102) -/

/-- A run as a strobe leaves it, before eight periods lock the machine. -/
def Run.bounded (r : Run) : Prop :=
  r.count ≤ 8 ∧ (r.count = 0 → r.first = 0 ∧ r.sum = 0) ∧ (1 ≤ r.count → 1000 ≤ r.first ∧ r.first ≤ 2000000)
    ∧ 1000 * r.count ≤ r.sum ∧ r.sum ≤ 2000000 * r.count

theorem Run.empty_sound : Run.empty.sound := by decide

theorem Run.enter_bounded {r : Run} (hr : r.sound) (p : Int) : (r.enter p).bounded := by
  obtain ⟨hcount, -, hfirst, hlow, hhigh⟩ := hr
  unfold Run.enter
  split
  · exact ⟨Nat.zero_le _, fun _ => ⟨rfl, rfl⟩, fun h => absurd h (by decide), le_rfl, le_rfl⟩
  · rename_i hrange
    simp only [periodInRange, Bool.not_eq_true', Bool.and_eq_false_iff, decide_eq_false_iff_not, not_or,
      not_not] at hrange
    unfold Run.bounded
    split
    · dsimp only
      omega
    · split <;> dsimp only <;> omega

/-- The law of the lock machine, the latest strobe given. -/
def Lock.sound (previous : Option Word) : Lock → Prop
  | .unlocked r => r.sound
  | .locked period timer =>
    1000 ≤ period ∧ period ≤ 2000000 ∧ (previous.map fun t => expiry t (2 * period)) = some timer

theorem Lock.step_sound {previous : Option Word} {l : Lock} (hl : l.sound previous) (now : Word) :
    (l.step (previous.map fun t => timeDiff t now) now).1.sound (some now) := by
  cases previous with
  | none =>
    cases l with
    | unlocked r => exact hl
    | locked period timer => exact absurd hl.2.2 (by simp)
  | some last =>
    cases l with
    | unlocked r =>
      obtain ⟨hcount, hempty, hfirst, hlow, hhigh⟩ := Run.enter_bounded hl (timeDiff last now)
      simp only [Lock.step, Option.map_some]
      split
      · rename_i height
        exact ⟨by omega, by omega, rfl⟩
      · exact ⟨by omega, hempty, hfirst, hlow, hhigh⟩
    | locked period timer =>
      obtain ⟨hlow, hhigh, -⟩ := hl
      simp only [Lock.step, Option.map_some]
      split
      · obtain ⟨-, hempty, hfirst, hlow, hhigh⟩ := Run.enter_bounded Run.empty_sound (timeDiff last now)
        refine ⟨?_, hempty, hfirst, hlow, hhigh⟩
        unfold Run.enter
        split
        · exact Nat.zero_le _
        · exact (by decide : 1 ≤ 7)
      · exact ⟨hlow, hhigh, rfl⟩

/-! ### The strobe unit (R98 to R102) -/

theorem StrobeUnit.sound_iff (u : StrobeUnit) :
    u.sound ↔ u.table.length ≤ 8 ∧ framesInOrder u.table
      ∧ (match u.table.getLast? with
        | none => u.counter = 0 ∧ u.previous = none
        | some r => r.frame = u.counter ∧ u.previous = some r.time)
      ∧ u.lock.sound u.previous := by
  unfold StrobeUnit.sound Lock.sound
  rfl

theorem StrobeUnit.reset_sound : StrobeUnit.reset.sound :=
  ⟨Nat.zero_le _, trivial, ⟨rfl, rfl⟩, Run.empty_sound⟩

theorem StrobeUnit.capture_sound {u : StrobeUnit} (hu : u.sound) (now : Word) : (u.capture now).1.sound := by
  obtain ⟨hlength, hframes, hnewest, hlock⟩ := u.sound_iff.mp hu
  refine (StrobeUnit.sound_iff _).mpr ⟨enterRecord_length hlength _, framesInOrder_enterRecord hframes ?_, ?_,
    Lock.step_sound hlock now⟩
  · intro r hr
    rw [hr] at hnewest
    exact congrArg (· + 1) hnewest.1.symm
  · dsimp only [StrobeUnit.capture]
    rw [getLast?_enterRecord]
    exact ⟨rfl, rfl⟩

theorem StrobeUnit.unlock_sound {u : StrobeUnit} (hu : u.sound) : { u with lock := Lock.unlocked Run.empty }.sound := by
  obtain ⟨hlength, hframes, hnewest, -⟩ := u.sound_iff.mp hu
  exact (StrobeUnit.sound_iff _).mpr ⟨hlength, hframes, hnewest, Run.empty_sound⟩

/-- One port's unit replaced by what a function that keeps the law makes of it. -/
theorem PerPort.set_sound {x : PerPort StrobeUnit} {p : Port} (hx : (x.get p).sound) (p' : Port)
    {f : StrobeUnit → StrobeUnit} (hf : ∀ u, u.sound → (f u).sound) : ((x.set p' (f (x.get p'))).get p).sound := by
  rcases eq_or_other p' p with rfl | rfl
  · rw [PerPort.get_set]
    exact hf _ hx
  · rw [PerPort.get_set_other]
    exact hx

theorem exec_keeps_strobeUnits {c : Instr} {s t : State} (h : exec c s = .next t) {p : Port}
    (hs : (s.tsu.get p).sound) : (t.tsu.get p).sound := by
  have hfresh : ∀ p, ((⟨StrobeUnit.reset, StrobeUnit.reset⟩ : PerPort StrobeUnit).get p).sound := fun p => by
    cases p <;> exact StrobeUnit.reset_sound
  have hreset : c = .powerOn ∨ c = .pinReset → (t.tsu.get p).sound := fun hc => by
    rcases exec_reset_cases hc h with rfl | ⟨cause, rfl⟩ | ⟨hold, -, rfl⟩
    · exact hs
    · exact hfresh p
    · exact hfresh p
  have command {c : Instr} {body : State → State} (hbody : ((body s).tsu.get p).sound) :
      ((s.runCommand c body).tsu.get p).sound :=
    State.runCommand_keeps (P := fun u => (u.tsu.get p).sound) c hs hs hbody
  cases c with
  | powerOn => exact hreset (.inl rfl)
  | pinReset => exact hreset (.inr rfl)
  | resetCore =>
    cases h
    exact command (hfresh p)
  | portReset =>
    cases h
    refine command ?_
    rcases portResetBody_cases s with ⟨n, st, args, he⟩ | ⟨p', args, -, he⟩ <;> rw [he]
    · exact hs
    · show ((((s.stopMesh p').tsu).set p' StrobeUnit.reset).get p).sound
      rw [State.stopMesh_tsu]
      exact PerPort.set_sound hs p' (f := fun _ => StrobeUnit.reset) fun _ _ => StrobeUnit.reset_sound
  | strobe p' =>
    cases h
    split
    · exact hs
    · simp only [State.portStrobe_tsu, State.postLock_tsu]
      exact PerPort.set_sound hs p' (f := fun u => (u.capture s.time).1) fun u hu => u.capture_sound hu s.time
  | lossTimerExpiry p' =>
    cases h
    split
    · exact PerPort.set_sound hs p' (f := fun u => { u with lock := Lock.unlocked Run.empty })
        fun u hu => u.unlock_sound hu
    · exact hs
  | _ => exact (exec_frame h (b := .tsu) rfl : t.tsu = s.tsu) ▸ hs

/-- Settles O59: each law is kept by every command, and speaks of blocks that the passing of time leaves alone. -/
theorem controlLinkAndStrobeStateStaysSound : Obligations.ControlLinkAndStrobeStateStaysSound := by
  refine ⟨fun s t h => ⟨fun hs => ?_, fun hs => ?_, fun hs => ?_, fun hs => ?_⟩,
    fun s t h => ⟨fun hs => ?_, fun p hp => ?_⟩⟩
  · exact step_keeps (P := fun s => s.cp.boxesSound) (fun _ _ h => h) (fun _ _ _ => exec_keeps_mailboxes)
      (fun s hs => (s.tick_same (b := .cp) Block.noConfusion : s.tick.cp = s.cp) ▸ hs) h hs
  · exact step_keeps (P := fun s => s.config.inRange) (fun _ _ h => h) (fun _ _ _ => exec_keeps_config)
      (fun s hs => (s.tick_same (b := .config) Block.noConfusion : s.tick.config = s.config) ▸ hs) h hs
  · exact step_keeps (P := fun s => s.eu.queue.length ≤ 32) (fun _ _ h => h) (fun _ _ _ => exec_keeps_queue)
      (fun s hs => (s.tick_same (b := .eu) Block.noConfusion : s.tick.eu = s.eu) ▸ hs) h hs
  · exact step_keeps (P := fun s => s.me.sound) (fun _ _ h => h) (fun _ _ _ => exec_keeps_engine)
      (fun s hs => (s.tick_same (b := .me) Block.noConfusion : s.tick.me = s.me) ▸ hs) h hs
  · exact step_keeps (P := fun s => s.llr.sound) (fun _ _ h => h) (fun _ _ _ => exec_keeps_receiver)
      (fun s hs => (s.tick_same (b := .llr) Block.noConfusion : s.tick.llr = s.llr) ▸ hs) h hs
  · exact step_keeps (P := fun s => (s.tsu.get p).sound) (fun _ _ h => h) (fun _ _ _ h => exec_keeps_strobeUnits h)
      (fun s hs => (s.tick_same (b := .tsu) Block.noConfusion : s.tick.tsu = s.tsu) ▸ hs) h hp

end Sys2Proof.Machine
end

section
/-! PROOFS. What a command does to the tracker: it follows on from what it was, or an attach or a reset starts it anew
(R66 to R73); O55 and O49. -/

namespace Sys2Proof.Machine

/-! ### The timeline in order (R69) -/

theorem timelineInOrder_iff (es : List Entry) :
    timelineInOrder es ↔ es.IsChain fun a b => earlier a.tLast b.tFirst = true := by
  induction es with
  | nil => exact ⟨fun _ => .nil, fun _ => trivial⟩
  | cons a es ih =>
    cases es with
    | nil => exact ⟨fun _ => .singleton a, fun _ => trivial⟩
    | cons b es =>
      rw [List.isChain_cons_cons]
      exact and_congr_right' ih

/-- A sample folded into the newest entry, or appended: what every entry meets, every entry meets afterwards. -/
theorem mem_foldOrAppend {es : List Entry} {x : Sample} {P : Entry → Prop} (hes : ∀ e ∈ es, P e)
    (hfold : ∀ e ∈ es, P { e with tLast := x.time })
    (hnew : P ⟨x.time, x.time, x.focal, x.focus, x.converter, x.feed⟩) : ∀ e ∈ (foldOrAppend es x).1, P e := by
  have happend : ∀ e ∈ appendEntry es ⟨x.time, x.time, x.focal, x.focus, x.converter, x.feed⟩, P e := by
    intro e he
    rcases List.mem_append.mp he with he | he
    · split at he
      · exact hes e (List.mem_of_mem_drop he)
      · exact hes e he
    · exact List.mem_singleton.mp he ▸ hnew
  unfold foldOrAppend
  split
  · rename_i newest hnewest
    split
    · intro e he
      rcases List.mem_append.mp he with he | he
      · exact hes e (List.mem_of_mem_dropLast he)
      · exact List.mem_singleton.mp he ▸ hfold newest (List.mem_of_getLast? hnewest)
    · exact happend
  · exact happend

theorem length_foldOrAppend {es : List Entry} (h : es.length ≤ 128) (x : Sample) :
    (foldOrAppend es x).1.length ≤ 128 := by
  have happend : ∀ e, (appendEntry es e).length ≤ 128 := by
    intro e
    unfold appendEntry
    rw [List.length_append, List.length_singleton]
    split
    · rw [List.length_drop]
      omega
    · rename_i hroom
      have : es.length < 128 := by simpa [Config.timelineCapacity] using hroom
      omega
  unfold foldOrAppend
  split
  · rename_i newest hnewest
    split
    · have hpos := List.length_pos_of_mem (List.mem_of_getLast? hnewest)
      rw [List.length_append, List.length_singleton, List.length_dropLast]
      omega
    · exact happend _
  · exact happend _

theorem foldOrAppend_ne_nil (es : List Entry) (x : Sample) : (foldOrAppend es x).1 ≠ [] := by
  unfold foldOrAppend appendEntry
  split
  · split <;> exact List.concat_ne_nil _ _
  · exact List.concat_ne_nil _ _

theorem timelineInOrder_append {es : List Entry} (h : timelineInOrder es) {e : Entry}
    (hlater : ∀ a, es.getLast? = some a → earlier a.tLast e.tFirst = true) : timelineInOrder (appendEntry es e) := by
  rw [timelineInOrder_iff] at h ⊢
  unfold appendEntry
  refine List.isChain_append.mpr ⟨?_, .singleton e, ?_⟩
  · split
    · exact h.drop 1
    · exact h
  · intro a ha b hb
    cases hb
    refine hlater a ?_
    split at ha
    · rename_i hfull
      have hfull : 128 ≤ es.length := hfull
      rwa [getLast?_drop_one (by omega)] at ha
    · exact ha

/-- Moving the newest entry's t_last leaves the order alone: no entry follows it. -/
theorem timelineInOrder_extend {es : List Entry} (h : timelineInOrder es) {e : Entry} (he : es.getLast? = some e)
    (t : Word) : timelineInOrder (es.dropLast ++ [{ e with tLast := t }]) := by
  rw [timelineInOrder_iff] at h ⊢
  rw [← List.dropLast_append_getLast? e he] at h
  obtain ⟨hinit, -, hlast⟩ := List.isChain_append.mp h
  refine List.isChain_append.mpr ⟨hinit, .singleton _, fun a ha b hb => ?_⟩
  cases hb
  exact hlast a ha e rfl

theorem timelineInOrder_foldOrAppend {es : List Entry} (h : timelineInOrder es) {x : Sample}
    (hlater : ∀ a, es.getLast? = some a → earlier a.tLast x.time = true) : timelineInOrder (foldOrAppend es x).1 := by
  unfold foldOrAppend
  split
  · split
    · exact timelineInOrder_extend h ‹_› _
    · exact timelineInOrder_append h hlater
  · exact timelineInOrder_append h hlater

/-! ### A tracker that follows on -/

/-- The tracker after an operation short of an attach: the epoch is kept, a record is kept as a record, no override is
put on, and the law of the timeline is kept. -/
structure Tracker.Follows (t t' : Tracker) : Prop where
  epoch : t'.epoch = t.epoch
  record : t'.record.isSome = t.record.isSome
  override : ∀ k, t'.override = some k → t.override = some k
  sound : t.sound → t'.sound

theorem Tracker.Follows.refl (t : Tracker) : t.Follows t := ⟨rfl, rfl, fun _ => id, id⟩

theorem Tracker.Follows.trans {t t' t'' : Tracker} (h : t.Follows t') (h' : t'.Follows t'') : t.Follows t'' :=
  ⟨h'.epoch.trans h.epoch, h'.record.trans h.record, fun k hk => h.override k (h'.override k hk),
    fun hs => h'.sound (h.sound hs)⟩

/-- A change of the counters, the source or the posted feed. -/
theorem Tracker.Follows.of_same {t t' : Tracker} (htimeline : t'.timeline = t.timeline := by rfl)
    (hrecord : t'.record = t.record := by rfl) (hepoch : t'.epoch = t.epoch := by rfl)
    (hoverride : t'.override = t.override := by rfl) : t.Follows t' := by
  refine ⟨hepoch, by rw [hrecord], fun k hk => hoverride ▸ hk, fun hs => ?_⟩
  unfold Tracker.sound at hs ⊢
  rwa [htimeline, hrecord, hepoch, hoverride]

/-- The record changed, its epoch and its range kept. -/
theorem Tracker.Follows.mapRecord (t : Tracker) {f : LensRecord → LensRecord} (hepoch : ∀ r, (f r).epoch = r.epoch)
    (hmin : ∀ r, (f r).focalMin = r.focalMin) (hmax : ∀ r, (f r).focalMax = r.focalMax) :
    t.Follows { t with record := t.record.map f } := by
  refine ⟨rfl, Option.isSome_map, fun _ => id, fun hs => ?_⟩
  unfold Tracker.sound at hs ⊢
  dsimp only
  cases hr : t.record with
  | none => rwa [hr] at hs
  | some r =>
    rw [hr] at hs
    simpa only [Option.map_some, hepoch, hmin, hmax] using hs

/-- An override cleared, kept, or put on where a record exists. -/
theorem Tracker.sound_setOverride {t : Tracker} (hs : t.sound) {o : Option (Fin 16)}
    (ho : o = none ∨ o = t.override ∨ t.record.isSome = true) : { t with override := o }.sound := by
  unfold Tracker.sound at hs ⊢
  obtain ⟨hlength, horder, hrecord⟩ := hs
  refine ⟨hlength, horder, ?_⟩
  dsimp only
  cases hr : t.record with
  | none =>
    rw [hr] at hrecord ho
    rcases ho with rfl | rfl | ho
    · exact ⟨hrecord.1, rfl⟩
    · exact hrecord
    · cases ho
  | some r => rwa [hr] at hrecord

/-- The override cleared where it names slot `k`. -/
theorem Tracker.Follows.clearOverride (t : Tracker) (k : Fin 16) :
    t.Follows { t with override := if t.override = some k then none else t.override } := by
  refine ⟨rfl, rfl, fun j hj => ?_, fun hs => Tracker.sound_setOverride hs ?_⟩
  · split at hj
    · cases hj
    · exact hj
  · split
    · exact .inl rfl
    · exact .inr (.inl rfl)

/-- A focal value as a record clamps it lies in the record's range. -/
theorem clampFocal_mem {lo hi : Half} (h : lo.toNat ≤ hi.toNat) (f : Half) :
    lo.toNat ≤ (clampFocal lo hi f).toNat ∧ (clampFocal lo hi f).toNat ≤ hi.toNat := by
  unfold clampFocal
  split
  · exact ⟨le_rfl, h⟩
  · split
    · exact ⟨h, le_rfl⟩
    · omega

theorem State.isLate_false {s : State} {t : Word} (h : s.isLate t = false) {e : Entry}
    (he : s.lst.timeline.getLast? = some e) : earlier e.tLast t = true := by
  unfold State.isLate State.newest? at h
  rw [he] at h
  dsimp only [notLater] at h
  rw [later_eq_earlier] at h
  simpa using h

/-- A sample entered where a record exists (R70). -/
theorem State.enterSample_follows {s : State} (hrecord : s.lst.record.isSome = true) (x : Sample) :
    s.lst.Follows (s.enterSample x).1.lst := by
  rcases s.enterSample_cases x with ⟨-, he⟩ | ⟨hlate, clamps, he⟩ <;> rw [he]
  · exact .of_same
  · refine ⟨rfl, rfl, fun _ => id, fun hs => ?_⟩
    obtain ⟨r, hr⟩ := Option.isSome_iff_exists.mp hrecord
    unfold Tracker.sound at hs ⊢
    dsimp only
    rw [hr] at hs ⊢
    obtain ⟨hlength, horder, -, hepoch, hmin, hmax, hfocal⟩ := hs
    have hclamp : s.clampedFocal x.focal = clampFocal r.focalMin r.focalMax x.focal := by
      rw [State.clampedFocal, hr]
    refine ⟨length_foldOrAppend hlength _, timelineInOrder_foldOrAppend horder fun a => State.isLate_false hlate,
      foldOrAppend_ne_nil _ _, hepoch, hmin, hmax, mem_foldOrAppend hfocal hfocal ?_⟩
    dsimp only
    rw [hclamp]
    exact clampFocal_mem hmax _

/-! ### The operations of the tracker -/

section
variable {t : Tracker} {s : State}

/-! Each operation carries the relation on from the state it is applied to. -/

theorem Tracker.Follows.then_same {u : Tracker} (h : t.Follows s.lst)
    (htimeline : u.timeline = s.lst.timeline := by rfl)
    (hrecord : u.record = s.lst.record := by rfl) (hepoch : u.epoch = s.lst.epoch := by rfl)
    (hoverride : u.override = s.lst.override := by rfl) : t.Follows u :=
  h.trans (.of_same htimeline hrecord hepoch hoverride)

theorem Tracker.Follows.changeSource (h : t.Follows s.lst) (f : Feed) (b : Bool) : t.Follows (s.changeSource f b).lst :=
  h.then_same

theorem Tracker.Follows.failover (h : t.Follows s.lst) : t.Follows s.failover.lst := by
  unfold State.failover
  split
  · exact h.changeSource _ _
  · exact h

theorem Tracker.Follows.setFresh (h : t.Follows s.lst) (f : Feed) (b : Bool) : t.Follows (s.setFresh f b).lst := by
  cases f
  · exact h
  · exact h.then_same

theorem Tracker.Follows.becomeStale (h : t.Follows s.lst) (f : Feed) : t.Follows (s.becomeStale f).lst :=
  h.setFresh f false

theorem Tracker.Follows.becomeFresh (h : t.Follows s.lst) (f : Feed) : t.Follows (s.becomeFresh f).lst :=
  h.setFresh f true

theorem Tracker.Follows.touchPosted (h : t.Follows s.lst) : t.Follows s.touchPosted.lst := by
  unfold State.touchPosted
  dsimp only
  split
  · exact h.then_same
  · refine (Tracker.Follows.becomeFresh ?_ .posted).failover
    exact h.then_same

theorem Tracker.Follows.countIgnored (h : t.Follows s.lst) : t.Follows s.countIgnored.lst := h.then_same

theorem Tracker.Follows.detach (h : t.Follows s.lst) : t.Follows s.detach.lst :=
  h.trans (.mapRecord s.lst (fun _ => rfl) (fun _ => rfl) fun _ => rfl)

theorem Tracker.Follows.changeConverter (h : t.Follows s.lst) (c : BitVec 2) : t.Follows (s.changeConverter c).lst := by
  unfold State.changeConverter
  rw [State.profileCheck_lst]
  exact h.trans (.mapRecord s.lst (fun _ => rfl) (fun _ => rfl) fun _ => rfl)

theorem Tracker.Follows.enterSample (h : t.Follows s.lst) (ht : t.record.isSome = true) (x : Sample) :
    t.Follows (s.enterSample x).1.lst :=
  h.trans (State.enterSample_follows (h.record.trans ht) x)

theorem Tracker.Follows.heartbeat (h : t.Follows s.lst) (ht : t.record.isSome = true) (x : Word) :
    t.Follows (s.heartbeat x).lst := by
  unfold State.heartbeat
  split
  · exact h.enterSample ht _
  · exact h

theorem Tracker.Follows.converterReport (h : t.Follows s.lst) (ht : t.record.isSome = true) (c : BitVec 2) (x : Word) :
    t.Follows (s.converterReport c x).lst := by
  unfold State.converterReport
  split
  · exact h.heartbeat ht x
  · exact (h.changeConverter c).heartbeat ht x

theorem Tracker.Follows.autoReturn (h : t.Follows s.lst) (r : Report) (good : Nat) :
    t.Follows (s.autoReturn r good).lst := by
  unfold State.autoReturn
  split
  · exact h.changeSource _ _
  · exact h

theorem Tracker.Follows.applyCurrent (h : t.Follows s.lst) (ht : t.record.isSome = true) (r : Report) :
    t.Follows (s.applyCurrent r).lst := by
  cases r with
  | position f u x => exact h.enterSample ht _
  | heartbeat x => exact h.heartbeat ht x
  | converter c x => exact h.converterReport ht c x
  | attach a x => exact h
  | detach x => exact h

end

theorem State.record_of_attached {s : State} (h : s.attached = true) : s.lst.record.isSome = true := by
  unfold State.attached at h
  split at h
  · rename_i r hr
    rw [hr]
    rfl
  · cases h

/-- A report short of an attach: the automatic return, then the report or the count of ignored (R72, R83). -/
theorem Tracker.Follows.sourceTest {t : Tracker} {s : State} (h : t.Follows s.lst) (r : Report) (good : Nat) :
    t.Follows
      (let s := s.autoReturn r good
       if s.attached && s.lst.source == .link then (s.applyCurrent r).testCover else s.countIgnored).lst := by
  dsimp only
  have hreturn := h.autoReturn r good
  split
  · rename_i hatt
    have hrecord := State.record_of_attached (Bool.and_eq_true_iff.mp hatt).1
    exact hreturn.applyCurrent (hreturn.record.symm.trans hrecord) r
  · exact hreturn.countIgnored

/-! ### Attach (R73) -/

/-- The tracker right after an attach. -/
theorem State.attach_lst (s : State) (a : Attach) (x : Word) (f : Feed) :
    (s.attach a x f).1.lst = { s.lst with
      epoch := s.lst.epoch + 1
      override := none
      record := some ⟨a.lensId, a.firmware, a.focalMin, a.focalMax, a.converter, .attached, s.lst.epoch + 1⟩
      timeline := [⟨x, x, clampFocal a.focalMin a.focalMax a.focal, a.focus, a.converter, f⟩]
      clamps :=
        if clampFocal a.focalMin a.focalMax a.focal != a.focal then satAdd s.lst.clamps 1 else s.lst.clamps } := by
  unfold State.attach
  dsimp only
  rw [State.testCover_lst, State.profileCheck_lst]
  rfl

/-- The tracker is one that an attach with a proper range has just started, from the epoch of `t`. -/
def Tracker.Attaches (t t' : Tracker) : Prop :=
  ∃ (s : State) (a : Attach) (x : Word) (f : Feed), s.lst.epoch = t.epoch ∧ 1 ≤ a.focalMin.toNat
    ∧ a.focalMin.toNat ≤ a.focalMax.toNat ∧ t' = (s.attach a x f).1.lst

theorem Tracker.Attaches.sound {t t' : Tracker} (h : t.Attaches t') : t'.sound := by
  obtain ⟨s, a, x, f, -, hmin, hmax, rfl⟩ := h
  rw [State.attach_lst]
  refine ⟨(by decide : 1 ≤ 128), trivial, List.cons_ne_nil _ _, rfl, hmin, hmax, fun e he => ?_⟩
  cases List.mem_singleton.mp he
  exact clampFocal_mem hmax _

theorem Tracker.Attaches.override {t t' : Tracker} (h : t.Attaches t') : t'.override = none := by
  obtain ⟨s, a, x, f, -, -, -, rfl⟩ := h
  rw [State.attach_lst]

theorem Tracker.Attaches.record {t t' : Tracker} (h : t.Attaches t') :
    t'.epoch = t.epoch + 1
      ∧ ∃ r e, t'.record = some r ∧ r.presence = .attached ∧ r.epoch = t'.epoch ∧ t'.timeline = [e] := by
  obtain ⟨s, a, x, f, hepoch, -, -, rfl⟩ := h
  rw [State.attach_lst]
  exact ⟨congrArg (· + 1) hepoch, _, _, rfl, rfl, rfl, rfl⟩

/-! ### Reports of the link -/

/-- An ATTACH frame that is not malformed carries a proper range (R57). -/
theorem readReport_attach {type len : Nat} {payload : List Byte} {now : Word} {a : Attach} {x : Word}
    (h : readReport type len payload now = some (.attach a x)) :
    1 ≤ a.focalMin.toNat ∧ a.focalMin.toNat ≤ a.focalMax.toNat := by
  unfold readReport at h
  dsimp only at h
  split at h
  · split at h
    · cases h
      exact ‹_›
    · cases h
  · split_ifs at h <;> cases h

theorem State.linkReport_follows {t : Tracker} {s : State} (h : t.Follows s.lst) (r : Report) (good : Nat)
    (hr : ∀ a x, r = .attach a x → 1 ≤ a.focalMin.toNat ∧ a.focalMin.toNat ≤ a.focalMax.toNat) :
    t.Follows (s.linkReport r good).lst ∨ t.Attaches (s.linkReport r good).lst := by
  cases r with
  | attach a x => exact .inr ⟨s, a, x, .link, h.epoch, (hr a x rfl).1, (hr a x rfl).2, rfl⟩
  | detach x =>
    left
    unfold State.linkReport
    dsimp only
    split
    · exact h.detach
    · exact h.countIgnored
  | position f u x => exact .inl (h.sourceTest _ good)
  | converter c x => exact .inl (h.sourceTest _ good)
  | heartbeat x => exact .inl (h.sourceTest _ good)

theorem State.intactFrame_follows (s : State) (bytes : List Byte) :
    s.lst.Follows (s.intactFrame bytes).lst ∨ s.lst.Attaches (s.intactFrame bytes).lst := by
  unfold State.intactFrame
  dsimp only
  have hsequence : ∀ q, s.lst.Follows (s.takeSequence q).lst := fun q => by
    rw [State.takeSequence_lst]
    exact .refl _
  split
  · exact .inl (hsequence _)
  · rename_i r hr
    unfold State.validFrame
    dsimp only
    refine State.linkReport_follows ?_ r _ fun a x hx => readReport_attach (hx ▸ hr)
    split
    · exact hsequence _
    · exact (hsequence _).becomeFresh (s := { s.takeSequence _ with llr := _ }) .link

theorem State.receiveByte_follows (s : State) (b : Byte) :
    s.lst.Follows (s.receiveByte b).lst ∨ s.lst.Attaches (s.receiveByte b).lst := by
  have error : s.lst.Follows s.checkError.lst := by
    rw [State.checkError_lst]
    exact .refl _
  unfold State.receiveByte
  split
  · exact .inl (.refl _)
  · split
    · split <;> exact .inl (.refl _)
    · split
      · exact .inl (.refl _)
      · exact .inl error
    · unfold State.byteInFrame
      dsimp only
      split
      · split
        · exact s.intactFrame_follows _
        · exact .inl error
      · split
        · exact .inl error
        · exact .inl (.refl _)

end Sys2Proof.Machine
end

section
/-! PROOFS. The tracker under every command (R66 to R92): O55 and O49. -/

namespace Sys2Proof.Machine

/-! ### The engine's commands: a delete applied at a release may clear the override -/

section
variable {t : Tracker} {s : State}

theorem Tracker.Follows.applyDelete (h : t.Follows s.lst) (k : Fin 16) : t.Follows (s.applyDelete k).lst :=
  h.trans (.clearOverride s.lst k)

theorem Tracker.Follows.releaseStore (h : t.Follows s.lst) : t.Follows s.releaseStore.lst := by
  rcases s.releaseStore_cases with he | ⟨k, p, -, -, -, he⟩ | ⟨k, -, -, he⟩ <;> rw [he]
  · exact h
  · exact h
  · exact h.applyDelete k

theorem Tracker.Follows.release (h : t.Follows s.lst) (p : Port) (k : Fin 4) : t.Follows (s.release p k).lst :=
  Tracker.Follows.releaseStore (s := s.setPort p _) h

theorem Tracker.Follows.closeMesh (h : t.Follows s.lst) (m : Mesh) (st : MeshStatus) :
    t.Follows (s.closeMesh m st).lst := by
  unfold State.closeMesh
  dsimp only
  refine Tracker.Follows.release ?_ _ _
  split <;> exact h

theorem Tracker.Follows.placeUnit (h : t.Follows s.lst) (m : Mesh) : t.Follows (s.placeUnit m).lst := by
  rw [State.placeUnit_eq]
  split
  · exact h
  · exact Tracker.Follows.closeMesh (s := s.push _ _) h _ _

theorem Tracker.Follows.grantHead (h : t.Follows s.lst) (p : Port) (r : Request) : t.Follows (s.grantHead p r).lst := by
  unfold State.grantHead
  dsimp only
  split
  · refine Tracker.Follows.release ?_ _ _
    exact h
  · split
    · refine Tracker.Follows.placeUnit ?_ _
      exact h
    · exact h

theorem Tracker.Follows.stopMesh (h : t.Follows s.lst) (p : Port) : t.Follows (s.stopMesh p).lst := by
  unfold State.stopMesh
  split
  · split
    · exact h.release _ _
    · exact h
  · exact h

end

/-! ### The mailbox commands -/

theorem State.Answers.follows {s t : State} (h : s.Answers t) : s.lst.Follows t.lst := by
  obtain ⟨n, st, args, rfl⟩ := h
  exact .refl _

/-- An accepted POST_ATTACH carries a proper range (R87). -/
theorem State.argAttach_range {s : State} (h : s.badAttachArgument = none) :
    1 ≤ s.argAttach.focalMin.toNat ∧ s.argAttach.focalMin.toNat ≤ s.argAttach.focalMax.toNat := by
  have hall := firstFailing_none h
  simp only [List.forall_mem_cons, decide_eq_true_eq] at hall
  obtain ⟨hmin, hmax, -⟩ := hall
  simp only [State.argAttach, State.arg16_toNat]
  exact ⟨hmin, hmax⟩

theorem postAttachBody_follows (s : State) :
    s.lst.Follows (postAttachBody s).lst ∨ s.lst.Attaches (postAttachBody s).lst := by
  rcases postAttachBody_cases s with h | ⟨hgood, args, he⟩
  · exact .inl h.follows
  · obtain ⟨hmin, hmax⟩ := s.argAttach_range hgood
    rw [he]
    exact .inr ⟨s.touchPosted, s.argAttach, _, .posted, (Tracker.Follows.refl s.lst).touchPosted.epoch, hmin, hmax, rfl⟩

theorem postPositionBody_follows (s : State) : s.lst.Follows (postPositionBody s).lst := by
  rcases postPositionBody_cases s with h | ⟨hatt, ⟨-, he⟩ | ⟨args, he⟩⟩
  · exact h.follows
  · obtain ⟨args, he'⟩ := s.touchPosted.postSample_eq s.argSample
    rw [he, he']
    refine Tracker.Follows.enterSample ?_ (State.record_of_attached hatt) _
    split
    · exact (Tracker.Follows.refl s.lst).touchPosted.changeConverter _
    · exact (Tracker.Follows.refl s.lst).touchPosted
  · rw [he]
    exact (Tracker.Follows.refl s.lst).touchPosted.countIgnored

theorem postDetachBody_follows (s : State) : s.lst.Follows (postDetachBody s).lst := by
  rcases postDetachBody_cases s with h | ⟨-, args, he⟩
  · exact h.follows
  · rw [he]
    exact (Tracker.Follows.refl s.lst).touchPosted.detach

theorem setSourceBody_follows (s : State) : s.lst.Follows (setSourceBody s).lst := by
  rcases setSourceBody_cases s with h | ⟨f, args, he⟩
  · exact h.follows
  · rw [he]
    show s.lst.Follows (if s.lst.source = f then s else s.changeSource f false).lst
    split
    · exact .refl _
    · exact (Tracker.Follows.refl s.lst).changeSource f false

theorem profileDeleteBody_follows (s : State) : s.lst.Follows (profileDeleteBody s).lst := by
  rcases profileDeleteBody_cases s with h | ⟨k, -, -, he⟩
  · exact h.follows
  · rcases s.deleteSlot_cases k with ⟨-, args, he'⟩ | ⟨-, args, he'⟩ <;> rw [he, he']
    · exact .refl _
    · exact (Tracker.Follows.refl s.lst).applyDelete k

/-- The override as BIND_OVERRIDE may put it on: on an occupied slot, with a lens on record (R43). -/
def State.Overridable (s : State) (o : Option (Fin 16)) : Prop :=
  ∀ k, o = some k → s.lst.record.isSome = true ∧ (s.profile? k).isSome = true

theorem bindOverrideBody_tracker (s : State) :
    s.lst.Follows (bindOverrideBody s).lst
      ∨ ∃ o, s.Overridable o ∧ (bindOverrideBody s).lst = { s.lst with override := o } := by
  rcases bindOverrideBody_cases s with h | ⟨o, args, ho, he⟩
  · exact .inl h.follows
  · exact .inr ⟨o, ho, by rw [he]; rfl⟩

theorem portResetBody_follows (s : State) : s.lst.Follows (portResetBody s).lst := by
  rcases portResetBody_cases s with h | ⟨p, args, -, he⟩
  · exact h.follows
  · rw [he]
    exact (Tracker.Follows.refl s.lst).stopMesh p

/-! ### Every command -/

theorem exec_tracker {c : Instr} {s t : State} (h : exec c s = .next t) :
    s.lst.Follows t.lst ∨ (s.lst.Attaches t.lst ∧ (c = .postAttach ∨ ∃ b, c = .linkByte b))
      ∨ (t.lst = Tracker.reset ∧ (c = .powerOn ∨ c = .pinReset ∨ c = .resetCore))
      ∨ (c = .bindOverride ∧ ∃ o, s.Overridable o ∧ t.lst = { s.lst with override := o }) := by
  have hsame : s.lst.Follows s.lst := .refl _
  have hreset (hc : c = .powerOn ∨ c = .pinReset) : s.lst.Follows t.lst ∨ t.lst = Tracker.reset := by
    rcases exec_reset_cases hc h with rfl | ⟨cause, rfl⟩ | ⟨hold, -, rfl⟩
    · exact .inl hsame
    · exact .inr rfl
    · exact .inr rfl
  have command {c : Instr} {body : State → State} (hbody : s.lst.Follows (body s).lst) :
      s.lst.Follows (s.runCommand c body).lst :=
    State.runCommand_keeps (P := fun u => s.lst.Follows u.lst) c hsame hsame hbody
  cases c with
  | powerOn => exact (hreset (.inl rfl)).imp_right fun he => .inr (.inl ⟨he, .inl rfl⟩)
  | pinReset => exact (hreset (.inr rfl)).imp_right fun he => .inr (.inl ⟨he, .inr (.inl rfl)⟩)
  | resetCore =>
    cases h
    rcases s.runCommand_cases .resetCore _ with he | he | ⟨-, he⟩ <;> rw [he]
    · exact .inl hsame
    · exact .inl hsame
    · exact .inr (.inr (.inl ⟨rfl, .inr (.inr rfl)⟩))
  | linkByte b =>
    cases h
    exact (s.clearBits.receiveByte_follows b).imp_right fun ha => .inl ⟨ha, .inr ⟨b, rfl⟩⟩
  | linkFreshnessExpiry =>
    cases h
    left
    split
    · refine (Tracker.Follows.becomeStale ?_ .link).failover
      exact hsame
    · exact hsame
  | postedFreshnessExpiry =>
    cases h
    left
    split
    · refine Tracker.Follows.becomeStale ?_ .posted
      exact .of_same
    · exact hsame
  | grant =>
    cases h
    left
    split
    · split
      · exact hsame.grantHead _ _
      · exact hsame
    · exact hsame
  | unitPlace =>
    cases h
    left
    split
    · split
      · exact hsame.placeUnit _
      · exact hsame
    · exact hsame
  | stallExpiry =>
    cases h
    left
    split
    · split
      · exact hsame.closeMesh _ _
      · exact hsame
    · exact hsame
  | postAttach =>
    cases h
    rcases s.runCommand_cases .postAttach postAttachBody with he | he | ⟨-, he⟩ <;> rw [he]
    · exact .inl hsame
    · exact .inl hsame
    · exact (postAttachBody_follows s).imp_right fun ha => .inl ⟨ha, .inl rfl⟩
  | postPosition =>
    cases h
    exact .inl (command (postPositionBody_follows s))
  | postDetach =>
    cases h
    exact .inl (command (postDetachBody_follows s))
  | setSource =>
    cases h
    exact .inl (command (setSourceBody_follows s))
  | profileDelete =>
    cases h
    exact .inl (command (profileDeleteBody_follows s))
  | bindOverride =>
    cases h
    rcases s.runCommand_cases .bindOverride bindOverrideBody with he | he | ⟨-, he⟩ <;> rw [he]
    · exact .inl hsame
    · exact .inl hsame
    · exact (bindOverrideBody_tracker s).imp_right fun ho => .inr (.inr ⟨rfl, ho⟩)
  | portReset =>
    cases h
    exact .inl (command (portResetBody_follows s))
  | _ => exact .inl ((exec_frame h (b := .lst) rfl : t.lst = s.lst) ▸ hsame)

/-- Settles O49: short of an attach and of a reset, the tracker follows on from what it was. -/
theorem epochChangesOnlyAtAttachOrReset : Obligations.EpochChangesOnlyAtAttachOrReset := by
  intro c s t h
  rcases exec_tracker h with hfollows | ⟨hattach, hc⟩ | ⟨hreset, hc⟩ | ⟨-, o, -, he⟩
  · exact .inl hfollows.epoch
  · exact .inr (.inl ⟨hattach.record.1, hc, hattach.record.2⟩)
  · exact .inr (.inr ⟨by rw [hreset]; rfl, hc⟩)
  · exact .inl (by rw [he])

theorem Tracker.reset_sound : Tracker.reset.sound := ⟨Nat.zero_le _, trivial, rfl, rfl⟩

/-- Settles O55: what follows on keeps the law, an attach and a reset establish it. -/
theorem timelineStaysInOrder : Obligations.TimelineStaysInOrder := by
  intro s t h hs
  refine step_keeps (P := fun s => s.lst.sound) (fun _ _ h => h) (fun c s t h hs => ?_)
    (fun s hs => (s.tick_same (b := .lst) Block.noConfusion : s.tick.lst = s.lst) ▸ hs) h hs
  rcases exec_tracker h with hfollows | ⟨hattach, -⟩ | ⟨hreset, -⟩ | ⟨-, o, ho, he⟩
  · exact hfollows.sound hs
  · exact hattach.sound
  · exact hreset ▸ Tracker.reset_sound
  · rw [he]
    refine Tracker.sound_setOverride hs ?_
    cases o with
    | none => exact .inl rfl
    | some k => exact .inr (.inr (ho k rfl).1)

end Sys2Proof.Machine
end

section
/-! PROOFS. While INIT_BUSY is set every block stands as the reset left it (R63, R104, R122, R160, R167, R190). -/

namespace Sys2Proof.Machine

/-! ### The law, taken apart -/

/-- What stands as a reset left it while INIT_BUSY is set, the streams and the ACCESS_VIOLATION flag apart. -/
def State.AtRest (s : State) : Prop :=
  s.config = ConfigSet.reset ∧ s.llr = LinkReceiver.reset ∧ s.lst = Tracker.reset
    ∧ s.tsu = ⟨StrobeUnit.reset, StrobeUnit.reset⟩ ∧ s.store = ProfileStore.cleared ∧ s.me = Engine.reset
    ∧ s.eu.queue = [] ∧ s.eu.summary = 0 ∧ s.eu.overflow = false ∧ s.eu.eventTime = 0
    ∧ ∀ p, (s.port p).config = PortConfig.reset ∧ (s.port p).gathered = [] ∧ (s.port p).slots = []
      ∧ (s.port p).replies = [] ∧ (s.port p).dropped = 0

/-- What holds while a reset holds the part. -/
def State.Halted (s : State) : Prop :=
  s.cp.initBusy = true ∧ s.time = 0 ∧ s.cp.latch = none ∧ ∀ p, (s.port p).fifo = []

theorem State.quietInit_iff (s : State) :
    s.quietInit ↔ (s.cp.hold ≠ .released → s.Halted) ∧ (s.cp.initBusy = true → s.AtRest) := Iff.rfl

/-- Once INIT_BUSY is clear the law asks for nothing. -/
theorem State.quietInit_of_clear {s : State} (hhold : s.cp.hold = .released) (hbusy : s.cp.initBusy = false) :
    s.quietInit :=
  ⟨fun h => absurd hhold h, fun h => absurd (hbusy.symm.trans h) Bool.noConfusion⟩

/-- Out of reset, the law is that of the blocks at rest. -/
theorem State.quietInit_of_rest {s : State} (hhold : s.cp.hold = .released) (hrest : s.AtRest) : s.quietInit :=
  ⟨fun h => absurd hhold h, fun _ => hrest⟩

theorem State.released_of_clear {s : State} (hs : s.quietInit) (hbusy : s.cp.initBusy = false) :
    s.cp.hold = .released := by
  by_contra hheld
  exact absurd (hbusy.symm.trans (hs.1 hheld).1) Bool.noConfusion

/-! ### INIT_BUSY and the hold under a command -/

theorem State.readFinish_hold (s : State) (i : EffectItem) :
    (s.readFinish i).cp.hold = s.cp.hold ∧ (s.readFinish i).cp.initBusy = s.cp.initBusy := by
  unfold State.readFinish
  repeat' split
  all_goals exact ⟨rfl, rfl⟩

theorem State.readTransaction_hold (s : State) (i : EffectItem) (ph : ReadPhase) :
    (s.readTransaction i ph).cp.hold = s.cp.hold ∧ (s.readTransaction i ph).cp.initBusy = s.cp.initBusy := by
  cases ph with
  | whole => exact (s.readAddress i).readFinish_hold i
  | address => exact ⟨rfl, rfl⟩
  | finish => exact s.readFinish_hold i
  | cut => exact ⟨rfl, rfl⟩

theorem ControlPort.storeData_hold (c : ControlPort) (b : Byte) :
    (c.storeData b).hold = c.hold ∧ (c.storeData b).initBusy = c.initBusy := by
  unfold ControlPort.storeData
  split <;> exact ⟨rfl, rfl⟩

/-- Only the resets hold the part or set INIT_BUSY, and only INIT_BUSY_CLEAR clears it. -/
theorem exec_hold {c : Instr} {s t : State} (h : exec c s = .next t) (hpower : c ≠ .powerOn) (hpin : c ≠ .pinReset) :
    t.cp.hold = s.cp.hold ∧ (c ≠ .initBusyClear → t.cp.initBusy = s.cp.initBusy) := by
  cases hbody : commandBody c with
  | some body =>
    by_cases hcore : c = .resetCore
    · subst hcore
      cases h
      rcases s.runCommand_cases .resetCore _ with he | he | ⟨-, he⟩ <;> rw [he] <;> exact ⟨rfl, fun _ => rfl⟩
    · rcases exec_responds hbody hcore h with rfl | ⟨u, st, args, rfl, hcp, -⟩
      · exact ⟨rfl, fun _ => rfl⟩
      · show u.cp.hold = s.cp.hold ∧ (_ → u.cp.initBusy = s.cp.initBusy)
        rw [hcp]
        exact ⟨rfl, fun _ => rfl⟩
  | none =>
    have held {u : State} (hu : u.cp.hold = s.cp.hold ∧ u.cp.initBusy = s.cp.initBusy) :
        (s.unlessHeld u).cp.hold = s.cp.hold ∧ (c ≠ .initBusyClear → (s.unlessHeld u).cp.initBusy = s.cp.initBusy) :=
      State.unlessHeld_keeps
        (P := fun u => u.cp.hold = s.cp.hold ∧ (c ≠ .initBusyClear → u.cp.initBusy = s.cp.initBusy))
        ⟨rfl, fun _ => rfl⟩ ⟨hu.1, fun _ => hu.2⟩
    cases c <;> first | contradiction | skip
    case initBusyClear =>
      cases h
      refine ⟨?_, fun hc => absurd rfl hc⟩
      unfold State.unlessHeld
      repeat' split
      all_goals rfl
    case eventPop ph =>
      cases h
      exact held (s.readTransaction_hold _ ph)
    case summary ph =>
      cases h
      exact held (s.readTransaction_hold _ ph)
    case mailboxFlags v =>
      cases h
      exact held ⟨rfl, rfl⟩
    case mailboxSelect v =>
      cases h
      exact held ⟨rfl, rfl⟩
    case mailboxDataWrite b =>
      cases h
      refine held ?_
      split
      · exact ⟨rfl, rfl⟩
      · exact s.cp.storeData_hold b
    case mailboxDataRead =>
      cases h
      exact held ⟨rfl, rfl⟩
    all_goals
      have hcp : t.cp = s.cp := exec_frame h (b := .cp) rfl
      rw [hcp]
      exact ⟨rfl, fun _ => rfl⟩

/-! ### Commands while INIT_BUSY is set -/

section
variable {s : State}

theorem EventUnit.readEffect_rest {u : EventUnit}
    (hu : u.queue = [] ∧ u.summary = 0 ∧ u.overflow = false ∧ u.eventTime = 0) (l : ReadLatch) :
    (u.readEffect l).queue = [] ∧ (u.readEffect l).summary = 0 ∧ (u.readEffect l).overflow = false
      ∧ (u.readEffect l).eventTime = 0 := by
  obtain ⟨hqueue, hsummary, hoverflow, htime⟩ := hu
  unfold EventUnit.readEffect
  split
  · split
    · unfold EventUnit.pop
      rw [hqueue]
      exact ⟨hqueue, hsummary, hoverflow, htime⟩
    · exact ⟨hqueue, hsummary, hoverflow, htime⟩
  · exact ⟨hqueue, by simp [EventUnit.clearReturned, hsummary], by simp [EventUnit.clearReturned, hoverflow], htime⟩

/-- Blocks at rest stay so where the control port, the streams and the ACCESS_VIOLATION flag alone change. -/
theorem State.AtRest.of_same {t : State} (hs : s.AtRest)
    (heu : t.eu.queue = [] ∧ t.eu.summary = 0 ∧ t.eu.overflow = false ∧ t.eu.eventTime = 0)
    (hconfig : t.config = s.config := by rfl) (hllr : t.llr = s.llr := by rfl) (hlst : t.lst = s.lst := by rfl)
    (htsu : t.tsu = s.tsu := by rfl) (hstore : t.store = s.store := by rfl) (hme : t.me = s.me := by rfl)
    (hports : t.ports = s.ports := by rfl) : t.AtRest := by
  obtain ⟨h1, h2, h3, h4, h5, h6, -, -, -, -, h7⟩ := hs
  obtain ⟨hqueue, hsummary, hoverflow, htime⟩ := heu
  refine ⟨hconfig.trans h1, hllr.trans h2, hlst.trans h3, htsu.trans h4, hstore.trans h5, hme.trans h6, hqueue,
    hsummary, hoverflow, htime, fun p => ?_⟩
  rw [State.port_of_ports hports]
  exact h7 p

theorem State.AtRest.events (hs : s.AtRest) :
    s.eu.queue = [] ∧ s.eu.summary = 0 ∧ s.eu.overflow = false ∧ s.eu.eventTime = 0 := by
  obtain ⟨-, -, -, -, -, -, hqueue, hsummary, hoverflow, htime, -⟩ := hs
  exact ⟨hqueue, hsummary, hoverflow, htime⟩

theorem State.AtRest.readFinish (hs : s.AtRest) (i : EffectItem) : (s.readFinish i).AtRest := by
  unfold State.readFinish
  split
  · split
    · exact hs.of_same (EventUnit.readEffect_rest hs.events _)
    · exact hs
  · exact hs

theorem State.AtRest.readTransaction (hs : s.AtRest) (i : EffectItem) (ph : ReadPhase) :
    (s.readTransaction i ph).AtRest := by
  cases ph with
  | whole => exact State.AtRest.readFinish (s := s.readAddress i) (hs.of_same hs.events) i
  | address => exact hs.of_same hs.events
  | finish => exact hs.readFinish i
  | cut => exact hs.of_same hs.events

/-- A part at rest offers no port to the arbiter. -/
theorem State.AtRest.grantPort (hs : s.AtRest) : s.grantPort = none := by
  obtain ⟨-, -, -, -, -, -, -, -, -, -, hports⟩ := hs
  have hoffers : ∀ p, s.offers p = false := fun p => by
    obtain ⟨-, -, hslots, -⟩ := hports p
    simp [State.offers, MeshPort.head?, hslots]
  simp [State.grantPort, hoffers]

/-- A command that is neither a reset, nor INIT_BUSY_CLEAR, nor an access to an item or a FIFO has no effect while
INIT_BUSY is set. -/
theorem exec_atRest {c : Instr} {t : State} (hbusy : s.cp.initBusy = true) (hs : s.AtRest) (h : exec c s = .next t)
    (hpower : c ≠ .powerOn) (hpin : c ≠ .pinReset) (hclear : c ≠ .initBusyClear)
    (hitem : Keeps c .cp ∨ commandBody c ≠ none)
    (hfifo : ∀ p, c ≠ .wordTaken p) : t = s := by
  cases hbody : commandBody c with
  | some body =>
    rw [exec_eq_runCommand hbody, State.runCommand_idle c body (by simp [State.commandReady, hbusy])] at h
    cases h
    rfl
  | none =>
    have hrest := hs
    obtain ⟨-, hllr, hlst, htsu, -, hme, -, -, -, -, hports⟩ := hs
    have hready : ∀ p, s.requestReady p = false := fun p => by simp [State.requestReady, hbusy]
    replace hitem : Keeps c .cp := hitem.resolve_right fun hne => hne hbody
    have hclearBits : s.clearBits = s := by
      obtain ⟨time, cp, config, eu, llr, lst, tsu, ports, store, me, freeIndex, resetPhases, pending⟩ := s
      cases hllr
      rfl
    cases c <;> first | contradiction | skip
    case linkByte b =>
      cases h
      simp [State.receiveByte, hbusy, hclearBits]
    case linkRunt bits =>
      simp only [exec, execLinkRunt] at h
      split at h <;> cases h
      simp [State.receiveRunt, hbusy, hclearBits]
    case interByteTimeout =>
      cases h
      simp [hllr, LinkReceiver.reset]
    case linkFreshnessExpiry =>
      cases h
      simp [hllr, LinkReceiver.reset]
    case postedFreshnessExpiry =>
      cases h
      simp [hlst, Tracker.reset]
    case strobe p =>
      cases h
      simp [hbusy]
    case lossTimerExpiry p =>
      cases h
      have hloss : s.lossDue p = false := by cases p <;> simp [State.lossDue, htsu, PerPort.get, StrobeUnit.reset]
      simp [hloss]
    case requestRecord p w =>
      cases h
      simp [hready p]
    case requestWordTaken p w =>
      cases h
      simp [hready p]
    case waitTimerExpiry p k =>
      cases h
      obtain ⟨-, -, hslots, -⟩ := hports p
      simp [MeshPort.request?, hslots]
    case wordTaken p => exact absurd rfl (hfifo p)
    case refuseRecordMove p =>
      cases h
      obtain ⟨-, -, -, hreplies, -⟩ := hports p
      simp [hreplies]
    case grant =>
      cases h
      simp [hrest.grantPort]
    case unitPlace =>
      cases h
      simp [hme, Engine.reset]
    case stallExpiry =>
      cases h
      simp [hme, Engine.reset]
    case itemWriteIgnored a v =>
      simp only [exec, execItemWriteIgnored] at h
      split at h <;> cases h
      rfl

end

/-! ### Every command keeps the quiet -/

/-- A word taken leaves all but the stream alone. -/
theorem State.quietInit.dropWord {s : State} (hs : s.quietInit) (p : Port) :
    (s.setPort p { s.port p with fifo := (s.port p).fifo.drop 1 }).quietInit := by
  obtain ⟨hhalted, hrest⟩ := s.quietInit_iff.mp hs
  refine ⟨fun hheld => ?_, fun hbusy => ?_⟩
  · obtain ⟨hbusy, htime, hlatch, hfifo⟩ := hhalted hheld
    refine ⟨hbusy, htime, hlatch, fun p' => ?_⟩
    rcases eq_or_other p p' with rfl | rfl
    · rw [State.port_setPort, hfifo]
      rfl
    · rw [State.port_setPort_other]
      exact hfifo _
  · obtain ⟨h1, h2, h3, h4, h5, h6, h7, h8, h9, h10, hports⟩ := hrest hbusy
    refine ⟨h1, h2, h3, h4, h5, h6, h7, h8, h9, h10, fun p' => ?_⟩
    rcases eq_or_other p p' with rfl | rfl
    · rw [State.port_setPort]
      exact hports _
    · rw [State.port_setPort_other]
      exact hports _

theorem State.afterReset_atRest (cause : ResetCause) (ws : List Word) : (State.afterReset cause ws).AtRest :=
  ⟨rfl, rfl, rfl, rfl, rfl, rfl, rfl, rfl, rfl, rfl, fun p => by cases p <;> exact ⟨rfl, rfl, rfl, rfl, rfl⟩⟩

theorem State.wholeReset_quiet (s : State) (cause : ResetCause) : (s.wholeReset cause).quietInit :=
  State.quietInit_of_rest rfl (State.afterReset_atRest cause _)

theorem State.heldReset_quiet (s : State) (hold : Hold) : (s.heldReset hold).quietInit :=
  ⟨fun _ => ⟨rfl, rfl, rfl, fun p => by cases p <;> rfl⟩, fun _ => State.afterReset_atRest s.cp.resetCause []⟩

theorem exec_keeps_quiet {c : Instr} {s t : State} (h : exec c s = .next t) (hs : s.quietInit) : t.quietInit := by
  by_cases hreset : c = .powerOn ∨ c = .pinReset
  · rcases exec_reset_cases hreset h with rfl | ⟨cause, rfl⟩ | ⟨hold, -, rfl⟩
    · exact hs
    · exact State.wholeReset_quiet _ _
    · exact State.heldReset_quiet _ _
  · obtain ⟨hpower, hpin⟩ := not_or.mp hreset
    obtain ⟨hhold, hbusy⟩ := exec_hold h hpower hpin
    cases hinit : s.cp.initBusy with
    | false =>
      have hreleased := State.released_of_clear hs hinit
      by_cases hclear : c = .initBusyClear
      · subst hclear
        cases h
        simpa [hreleased, hinit, State.unlessHeld] using hs
      · exact State.quietInit_of_clear (hhold.trans hreleased) ((hbusy hclear).trans hinit)
    | true =>
      have hrest : s.AtRest := hs.2 hinit
      have held {u : State} (hu : s.cp.hold = .released → u.quietInit) : (s.unlessHeld u).quietInit := by
        unfold State.unlessHeld
        split
        · exact hu ‹_›
        · exact hs
      cases c with
      | initBusyClear =>
        cases h
        refine held fun hreleased => ?_
        rw [if_pos hinit]
        exact State.quietInit_of_clear hreleased rfl
      | wordTaken p =>
        cases h
        exact hs.dropWord p
      | eventPop ph =>
        cases h
        exact held fun hreleased =>
          State.quietInit_of_rest ((s.readTransaction_hold _ ph).1.trans hreleased) (hrest.readTransaction _ ph)
      | summary ph =>
        cases h
        exact held fun hreleased =>
          State.quietInit_of_rest ((s.readTransaction_hold _ ph).1.trans hreleased) (hrest.readTransaction _ ph)
      | mailboxFlags v =>
        cases h
        exact held fun hreleased => State.quietInit_of_rest hreleased (hrest.of_same hrest.events)
      | mailboxSelect v =>
        cases h
        exact held fun hreleased => State.quietInit_of_rest hreleased (hrest.of_same hrest.events)
      | mailboxDataWrite b =>
        cases h
        refine held fun hreleased => ?_
        split
        · exact State.quietInit_of_rest hreleased (hrest.of_same hrest.events)
        · exact State.quietInit_of_rest ((s.cp.storeData_hold b).1.trans hreleased) (hrest.of_same hrest.events)
      | mailboxDataRead =>
        cases h
        exact held fun hreleased => State.quietInit_of_rest hreleased (hrest.of_same hrest.events)
      | powerOn => exact absurd rfl hpower
      | pinReset => exact absurd rfl hpin
      | _ =>
        refine (exec_atRest hinit hrest h hpower hpin Instr.noConfusion ?_ fun p => Instr.noConfusion) ▸ hs
        first | exact .inl rfl | exact .inr (Option.some_ne_none _)

/-- The timebase advances only out of reset. -/
theorem State.tick_quiet {s : State} (hs : s.quietInit) : s.tick.quietInit := by
  unfold State.tick State.unlessHeld
  split
  · exact ⟨fun h => absurd ‹_› h, hs.2⟩
  · exact hs

end Sys2Proof.Machine
end

section
/-! PROOFS. The law of keys, bound slot, override and pending operation (R23, R25, R27, R35, R39, R43, R44): O58. -/

namespace Sys2Proof.Machine

/-! ### The law, taken apart -/

/-- Keys differ between slots (R23). -/
def State.KeysDiffer (s : State) : Prop :=
  ∀ (j k : Fin 16) (key : Word × BitVec 2), s.key? j = some key → s.key? k = some key → j = k

/-- A bound slot and an override are occupied (R25, R43). -/
def State.NamedOccupied (s : State) : Prop :=
  ∀ k : Fin 16, s.store.boundSlot = some k ∨ s.lst.override = some k → (s.profile? k).isSome = true

/-- The law of the pending operation (R27, R35, R39), case by case. -/
def State.PendingFits (s : State) : Prop :=
  (s.store.pendingOp = none ∧ ∀ p, s.store.staging ≠ .committing p)
    ∨ (∃ k, s.store.pendingOp = some (.delete k) ∧ (∀ p, s.store.staging ≠ .committing p)
        ∧ s.store.boundSlot = some k)
    ∨ ∃ k p, s.store.pendingOp = some (.commit k) ∧ s.store.staging = .committing p ∧ s.store.boundSlot = some k
        ∧ s.key? k = some (p.header.lensId, p.header.converter)

/-- The law of the store, the mesh in computation apart. -/
def State.StoreLaw (s : State) : Prop := s.KeysDiffer ∧ s.NamedOccupied ∧ s.PendingFits

theorem State.storeSound_iff (s : State) :
    s.storeSound ↔ s.StoreLaw ∧ s.store.boundSlot = s.me.mesh.bind (·.binding.slot) := by
  have hpending : (match s.store.pendingOp, s.store.staging with
      | none, .committing _ => False
      | none, _ => True
      | some (.delete _), .committing _ => False
      | some (.delete k), _ => s.store.boundSlot = some k
      | some (.commit k), .committing p =>
        s.store.boundSlot = some k ∧ s.key? k = some (p.header.lensId, p.header.converter)
      | some (.commit _), _ => False) ↔ s.PendingFits := by
    unfold State.PendingFits
    rcases s.store.pendingOp with _ | ⟨k⟩ | ⟨k⟩ <;> rcases s.store.staging with _ | p | p <;> simp
  unfold State.storeSound State.StoreLaw
  constructor
  · rintro ⟨hkeys, hbound, hnamed, hp⟩
    exact ⟨⟨hkeys, hnamed, hpending.mp hp⟩, hbound⟩
  · rintro ⟨⟨hkeys, hnamed, hp⟩, hbound⟩
    exact ⟨hkeys, hbound, hnamed, hpending.mpr hp⟩

/-! ### What the law rests on -/

theorem State.profile?_congr {s t : State} (h : t.store.slots = s.store.slots) (k : Fin 16) :
    t.profile? k = s.profile? k := by
  unfold State.profile?
  rw [h]

theorem State.key?_congr {s t : State} (h : t.store.slots = s.store.slots) (k : Fin 16) : t.key? k = s.key? k := by
  unfold State.key?
  rw [State.profile?_congr h]

theorem State.key?_isSome (s : State) (k : Fin 16) : (s.key? k).isSome = (s.profile? k).isSome := by
  unfold State.key?
  exact Option.isSome_map

/-- The law speaks of the store and of the override that stands. -/
theorem State.StoreLaw.congr {s t : State} (hs : s.StoreLaw) (hstore : t.store = s.store)
    (hoverride : ∀ k, t.lst.override = some k → s.lst.override = some k) : t.StoreLaw := by
  obtain ⟨hkeys, hnamed, hpending⟩ := hs
  have hslots : t.store.slots = s.store.slots := by rw [hstore]
  refine ⟨fun j k key hj hk => ?_, fun k hk => ?_, ?_⟩
  · rw [State.key?_congr hslots] at hj hk
    exact hkeys j k key hj hk
  · rw [State.profile?_congr hslots]
    rw [hstore] at hk
    exact hnamed k (hk.imp_right (hoverride k))
  · unfold State.PendingFits at hpending ⊢
    simpa only [hstore, State.key?_congr hslots] using hpending

theorem State.storeSound_congr {s t : State} (hs : s.storeSound) (hstore : t.store = s.store)
    (hmesh : t.me.mesh.bind (·.binding.slot) = s.me.mesh.bind (·.binding.slot))
    (hoverride : ∀ k, t.lst.override = some k → s.lst.override = some k) : t.storeSound := by
  rw [State.storeSound_iff] at hs ⊢
  exact ⟨hs.1.congr hstore hoverride, by rw [hstore, hmesh, hs.2]⟩

/-- An empty store with nothing bound and no override. -/
theorem State.storeSound_of_reset {s : State} (hstore : s.store = ProfileStore.cleared)
    (hmesh : s.me.mesh = none) (hoverride : s.lst.override = none) : s.storeSound := by
  have hempty : ∀ k, s.key? k = none := fun k => by
    unfold State.key? State.profile?
    rw [hstore]
    simp [ProfileStore.cleared, Vector.get]
  rw [State.storeSound_iff]
  refine ⟨⟨fun j k key hj => ?_, fun k hk => ?_, .inl ?_⟩, ?_⟩
  · rw [hempty] at hj
    cases hj
  · rw [hstore, hoverride] at hk
    rcases hk with hk | hk <;> cases hk
  · rw [hstore]
    exact ⟨rfl, fun p hp => by cases hp⟩
  · rw [hstore, hmesh]
    rfl

/-! ### Slots written and emptied -/

theorem State.key?_setSlot (s : State) (k : Fin 16) (x : Slot) (j : Fin 16) :
    (s.setSlot k x).key? j
      = if j = k then x.profile.map (fun p => (p.header.lensId, p.header.converter)) else s.key? j := by
  unfold State.key?
  rw [State.profile?_setSlot]
  split <;> rfl

theorem State.applyCommit_slots (s : State) (k : Fin 16) (p : Staged) :
    (s.applyCommit k p).store
      = { s.store with
          slots := s.store.slots.set k ⟨s.generation k + 1, some p.profile⟩, staging := .closed, pendingOp := none } :=
  rfl

theorem State.applyCommit_key? (s : State) (k : Fin 16) (p : Staged) (j : Fin 16) :
    (s.applyCommit k p).key? j = if j = k then some (p.header.lensId, p.header.converter) else s.key? j :=
  s.key?_setSlot k _ j

theorem State.applyDelete_slots (s : State) (k : Fin 16) :
    (s.applyDelete k).store
      = { s.store with slots := s.store.slots.set k ⟨s.generation k, none⟩, pendingOp := none } :=
  rfl

theorem State.applyDelete_key? (s : State) (k : Fin 16) (j : Fin 16) :
    (s.applyDelete k).key? j = if j = k then none else s.key? j :=
  s.key?_setSlot k _ j

/-- A commit applied to the slot that holds its key, or to a slot while none does. -/
theorem State.applyCommit_law {s : State} {k : Fin 16} {p : Staged} (hkeys : s.KeysDiffer) (hnamed : s.NamedOccupied)
    (htarget : ∀ j, s.key? j = some (p.header.lensId, p.header.converter) → j = k) : (s.applyCommit k p).StoreLaw := by
  refine ⟨fun i j key hi hj => ?_, fun j hj => ?_, .inl ⟨rfl, fun _ h => by cases h⟩⟩
  · rw [State.applyCommit_key?] at hi hj
    split at hi <;> split at hj
    · exact ‹i = k›.trans ‹j = k›.symm
    · cases hi
      exact ‹i = k›.trans (htarget j hj).symm
    · cases hj
      exact (htarget i hi).trans ‹j = k›.symm
    · exact hkeys i j key hi hj
  · rw [← State.key?_isSome, State.applyCommit_key?]
    split
    · rfl
    · rw [State.key?_isSome]
      exact hnamed j hj

/-- A delete applied to a slot that is not bound. -/
theorem State.applyDelete_law {s : State} {k : Fin 16} (hkeys : s.KeysDiffer) (hnamed : s.NamedOccupied)
    (hbound : s.store.boundSlot ≠ some k) (hstaging : ∀ p, s.store.staging ≠ .committing p) :
    (s.applyDelete k).StoreLaw := by
  refine ⟨fun i j key hi hj => ?_, fun j hj => ?_, .inl ⟨rfl, hstaging⟩⟩
  · rw [State.applyDelete_key?] at hi hj
    split at hi
    · cases hi
    · split at hj
      · cases hj
      · exact hkeys i j key hi hj
  · have hne : j ≠ k := by
      rintro rfl
      rcases hj with hj | hj
      · exact hbound hj
      · change (if s.lst.override = some j then none else s.lst.override) = some j at hj
        split at hj
        · cases hj
        · exact absurd hj ‹_›
    have hj' : s.store.boundSlot = some j ∨ s.lst.override = some j := by
      refine hj.imp_right fun hj => ?_
      change (if s.lst.override = some k then none else s.lst.override) = some j at hj
      split at hj
      · cases hj
      · exact hj
    rw [← State.key?_isSome, State.applyDelete_key?, if_neg hne, State.key?_isSome]
    exact hnamed j hj'

/-! ### The release (R28, R156) -/

/-- The bound slot's record cleared, once nothing is pending. -/
theorem State.clearBound_sound {s t : State} (hs : s.StoreLaw) (hidle : s.store.pendingOp = none)
    (hstore : t.store = { s.store with boundSlot := none }) (hmesh : t.me.mesh = none)
    (hoverride : t.lst.override = s.lst.override) : t.storeSound := by
  obtain ⟨hkeys, hnamed, hpending⟩ := hs
  have hslots : t.store.slots = s.store.slots := by rw [hstore]
  have hstaging : ∀ p, s.store.staging ≠ .committing p := by
    rcases hpending with ⟨-, h⟩ | ⟨k, h, -⟩ | ⟨k, p, h, -⟩
    · exact h
    · exact absurd (hidle.symm.trans h) (by simp)
    · exact absurd (hidle.symm.trans h) (by simp)
  rw [State.storeSound_iff]
  refine ⟨⟨fun j k key hj hk => ?_, fun k hk => ?_, .inl ?_⟩, by rw [hstore, hmesh]; rfl⟩
  · rw [State.key?_congr hslots] at hj hk
    exact hkeys j k key hj hk
  · rw [State.profile?_congr hslots]
    rw [hstore, hoverride] at hk
    exact hnamed k (hk.imp_left fun h => by cases h)
  · rw [hstore]
    exact ⟨hidle, hstaging⟩

theorem State.releaseStore_idle {s : State} (h : s.store.pendingOp = none) :
    s.releaseStore = { s with store := { s.store with boundSlot := none } } := by
  unfold State.releaseStore
  rw [h]

theorem State.releaseStore_commit {s : State} {k : Fin 16} {p : Staged} (hop : s.store.pendingOp = some (.commit k))
    (hbound : s.store.boundSlot = some k) (hstaging : s.store.staging = .committing p) :
    s.releaseStore = { s.applyCommit k p with store := { (s.applyCommit k p).store with boundSlot := none } } := by
  unfold State.releaseStore
  rw [hop, hbound, hstaging]
  simp [Staging.content]

/-- The bound slot's record may as well be cleared before the delete is applied. -/
theorem State.releaseStore_delete {s : State} {k : Fin 16} (hop : s.store.pendingOp = some (.delete k))
    (hbound : s.store.boundSlot = some k) :
    s.releaseStore = ({ s with store := { s.store with boundSlot := none } }).applyDelete k := by
  unfold State.releaseStore
  rw [hop, hbound]
  simp only [if_true]
  rfl

theorem State.releaseStore_law {s t : State} (hs : s.StoreLaw) (hstore : t.store = s.releaseStore.store)
    (hmesh : t.me.mesh = none) (hoverride : t.lst.override = s.releaseStore.lst.override) : t.storeSound := by
  have hlaw := hs
  obtain ⟨hkeys, hnamed, hpending⟩ := hlaw
  rcases hpending with ⟨hidle, -⟩ | ⟨k, hop, hstaging, hbound⟩ | ⟨k, p, hop, hstaging, hbound, hkey⟩
  · rw [s.releaseStore_idle hidle] at hstore hoverride
    exact State.clearBound_sound hs hidle hstore hmesh hoverride
  · rw [s.releaseStore_delete hop hbound] at hstore hoverride
    have hlaw := State.applyDelete_law (s := { s with store := { s.store with boundSlot := none } }) (k := k) hkeys
      (fun j hj => hnamed j (hj.imp_left fun h => by cases h)) (fun h => by cases h) hstaging
    exact State.clearBound_sound hlaw rfl hstore hmesh hoverride
  · rw [s.releaseStore_commit hop hbound hstaging] at hstore hoverride
    exact State.clearBound_sound (State.applyCommit_law hkeys hnamed fun j hj => hkeys j k _ hj hkey) rfl hstore hmesh
      hoverride

theorem State.release_sound {s : State} (hs : s.StoreLaw) (p : Port) (k : Fin 4) : (s.release p k).storeSound :=
  State.releaseStore_law (s := s.setPort p ((s.port p).free k)) (hs.congr rfl fun _ => id) rfl rfl rfl

/-! ### The engine's commands -/

theorem State.closeMesh_storeSound {s : State} (hs : s.StoreLaw) (m : Mesh) (st : MeshStatus) :
    (s.closeMesh m st).storeSound := by
  unfold State.closeMesh
  refine State.release_sound ?_ _ _
  split <;> exact hs.congr rfl fun _ => id

theorem State.placeUnit_storeSound {s : State} (hs : s.StoreLaw) {m : Mesh}
    (hbound : s.store.boundSlot = m.binding.slot) :
    (s.placeUnit m).storeSound := by
  obtain ⟨-, -, hbinding, -⟩ := m.placed_frame
  have hpushed : (s.push m.port m.unit.words).StoreLaw := hs.congr rfl fun _ => id
  rw [State.placeUnit_eq]
  split
  · rw [State.storeSound_iff]
    exact ⟨hpushed.congr rfl fun _ => id, hbound.trans (congrArg Binding.slot hbinding).symm⟩
  · exact State.closeMesh_storeSound hpushed _ _

theorem State.stopMesh_storeSound {s : State} (hs : s.storeSound) (p : Port) : (s.stopMesh p).storeSound := by
  unfold State.stopMesh
  split
  · split
    · exact State.release_sound (s.storeSound_iff.mp hs).1 _ _
    · exact hs
  · exact hs

/-- The slot that a bind chooses is occupied (R45, R46). -/
theorem bindTo_slot {s : State} {choice : BindCase} {k : Fin 16} {b : Binding} (h : bindTo s choice k = some b) :
    b.slot = some k ∧ (s.profile? k).isSome = true := by
  unfold bindTo at h
  obtain ⟨p, hp, rfl⟩ := Option.map_eq_some_iff.mp h
  exact ⟨rfl, by rw [hp]; rfl⟩

theorem State.bind_occupied {s : State} {converter : BitVec 2} {k : Fin 16}
    (h : (s.bind converter).slot = some k) : (s.profile? k).isSome = true := by
  have occupied {choice : BindCase} {o : Option (Fin 16)} {b : Binding} (hb : o.bind (bindTo s choice) = some b)
      (hk : b.slot = some k) : (s.profile? k).isSome = true := by
    obtain ⟨j, -, hj⟩ := Option.bind_eq_some_iff.mp hb
    obtain ⟨hslot, hfull⟩ := bindTo_slot hj
    cases hslot.symm.trans hk
    exact hfull
  have keyed {choice : BindCase} {c : BitVec 2} {b : Binding}
      (hb : (s.lst.record.bind fun r => (s.slotWithKey r.lensId c).bind (bindTo s choice)) = some b)
      (hk : b.slot = some k) : (s.profile? k).isSome = true := by
    obtain ⟨r, -, hr⟩ := Option.bind_eq_some_iff.mp hb
    exact occupied hr hk
  unfold State.bind at h
  dsimp only at h
  cases hnamed : s.lst.override.bind (bindTo s .overridden) with
  | some b =>
    rw [hnamed] at h
    exact occupied hnamed h
  | none =>
    rw [hnamed, Option.none_or] at h
    cases hexact : s.lst.record.bind fun r => (s.slotWithKey r.lensId converter).bind (bindTo s .exact) with
    | some b =>
      rw [hexact] at h
      exact keyed hexact h
    | none =>
      rw [hexact, Option.none_or] at h
      cases hbase : s.lst.record.bind fun r => (s.slotWithKey r.lensId 0).bind (bindTo s .fallbackBase) with
      | some b =>
        rw [hbase] at h
        exact keyed hbase h
      | none =>
        rw [hbase] at h
        cases h

/-- A grant point has no mesh, so nothing is bound and nothing is pending. -/
theorem State.StoreLaw.idle {s : State} (hs : s.StoreLaw) (hbound : s.store.boundSlot = none) :
    s.store.pendingOp = none ∧ ∀ p, s.store.staging ≠ .committing p := by
  obtain ⟨-, -, hidle | ⟨k, -, -, hk⟩ | ⟨k, p, -, -, hk, -⟩⟩ := hs
  · exact hidle
  · exact absurd (hbound.symm.trans hk) (by simp)
  · exact absurd (hbound.symm.trans hk) (by simp)

theorem State.grantPort_idle {s : State} {p : Port} (h : s.grantPort = some p) : s.me.mesh = none := by
  unfold State.grantPort at h
  split at h
  · cases h
  · rename_i hfree
    simp only [Bool.or_eq_true, not_or, Bool.not_eq_true, Option.isSome_eq_false_iff,
      Option.isNone_iff_eq_none] at hfree
    exact hfree.1

theorem State.grantHead_storeSound {s : State} (hs : s.storeSound) (hmesh : s.me.mesh = none) (p : Port) (r : Request) :
    (s.grantHead p r).storeSound := by
  obtain ⟨hlaw, hbound⟩ := s.storeSound_iff.mp hs
  rw [hmesh] at hbound
  obtain ⟨hidle, hstaging⟩ := hlaw.idle hbound
  obtain ⟨hkeys, hnamed, -⟩ := hlaw
  have hgranted : ∀ q, (({ s with
      me := s.me.granted p
      store := { s.store with boundSlot := (s.bind (s.centreConverter r)).slot } } : State).setPort p q).StoreLaw := by
    intro q
    refine ⟨hkeys, fun k hk => ?_, .inl ⟨hidle, hstaging⟩⟩
    rcases hk with hk | hk
    · exact State.bind_occupied hk
    · exact hnamed k (.inr hk)
  unfold State.grantHead
  dsimp only
  split
  · exact State.release_sound (hgranted _) _ _
  · split
    · exact State.placeUnit_storeSound (hgranted _) rfl
    · rw [State.storeSound_iff]
      exact ⟨(hgranted (s.port p)).congr rfl fun _ => id, rfl⟩

/-! ### The mailbox commands -/

theorem State.Answers.storeSound {s t : State} (h : s.Answers t) (hs : s.storeSound) : t.storeSound := by
  obtain ⟨n, st, args, rfl⟩ := h
  exact State.storeSound_congr hs rfl rfl fun _ => id

/-- A command that moves the store alone leaves the mesh with the bound slot it has. -/
theorem State.storeSound_of_law {s t : State} (hs : s.storeSound) (hlaw : t.StoreLaw)
    (hbound : t.store.boundSlot = s.store.boundSlot) (hme : t.me = s.me) : t.storeSound := by
  rw [State.storeSound_iff] at hs ⊢
  exact ⟨hlaw, by rw [hbound, hme, hs.2]⟩

/-- The staging slot replaced, no commit being pending. -/
theorem State.StoreLaw.setStaging {s : State} (hs : s.StoreLaw) {x : Staging}
    (hold : ∀ p, s.store.staging ≠ .committing p)
    (hnew : ∀ p, x ≠ .committing p) : ({ s with store := { s.store with staging := x } }).StoreLaw := by
  obtain ⟨hkeys, hnamed, hidle | ⟨k, hop, -, hk⟩ | ⟨k, p, -, hp, -⟩⟩ := hs
  · exact ⟨hkeys, hnamed, .inl ⟨hidle.1, hnew⟩⟩
  · exact ⟨hkeys, hnamed, .inr (.inl ⟨k, hop, hnew, hk⟩)⟩
  · exact absurd hp (hold p)

theorem profileOpenBody_storeSound {s : State} (hs : s.storeSound) : (profileOpenBody s).storeSound := by
  rcases profileOpenBody_cases s with h | ⟨hclosed, -, args, he⟩
  · exact h.storeSound hs
  · rw [he]
    have hlaw := (s.storeSound_iff.mp hs).1.setStaging (fun p hp => Staging.noConfusion (hclosed.symm.trans hp))
      (x := .opened (.opening (s.argHeader (s.countArg 4) (s.countArg 5)))) fun p hp => Staging.noConfusion hp
    exact State.storeSound_of_law hs (hlaw.congr rfl fun _ => id) rfl rfl

theorem profileNodesBody_storeSound {s : State} (hs : s.storeSound) : (profileNodesBody s).storeSound := by
  rcases profileNodesBody_cases s with h | ⟨p, first, sets, args, hopen, he⟩
  · exact h.storeSound hs
  · rw [he]
    have hlaw := (s.storeSound_iff.mp hs).1.setStaging (fun p hp => Staging.noConfusion (hopen.symm.trans hp))
      (x := .opened { p with table := writeSets p.table first sets }) fun p hp => Staging.noConfusion hp
    exact State.storeSound_of_law hs (hlaw.congr rfl fun _ => id) rfl rfl

/-- The target of a commit holds the staged key, or is empty while no slot holds it (R33). -/
theorem State.commitTarget_some {s : State} {h : ProfileHeader} {k : Fin 16} (hk : s.commitTarget h = some k) :
    s.key? k = some (h.lensId, h.converter)
      ∨ (s.profile? k = none ∧ ∀ j, s.key? j ≠ some (h.lensId, h.converter)) := by
  unfold State.commitTarget at hk
  cases hkey : s.slotWithKey h.lensId h.converter with
  | some j =>
    rw [hkey] at hk
    cases hk
    exact .inl (State.slotWithKey_some hkey).1
  | none =>
    rw [hkey, Option.none_or] at hk
    exact .inr ⟨Option.isNone_iff_eq_none.mp (findSlot_some hk).1, State.slotWithKey_none hkey⟩

theorem profileCommitBody_storeSound {s : State} (hs : s.storeSound) : (profileCommitBody s).storeSound := by
  rcases profileCommitBody_cases s with h | ⟨p, k, hidle, hopen, -, -, htarget, he⟩
  · exact h.storeSound hs
  · obtain ⟨⟨hkeys, hnamed, -⟩, -⟩ := s.storeSound_iff.mp hs
    rcases s.commitTo_cases k p with ⟨hbound, args, he'⟩ | ⟨hfree, args, he'⟩ <;> rw [he, he']
    · have hkey : s.key? k = some (p.header.lensId, p.header.converter) := by
        rcases State.commitTarget_some htarget with hkey | ⟨hempty, -⟩
        · exact hkey
        · exact absurd (hnamed k (.inl hbound)) (by simp [hempty])
      exact State.storeSound_of_law hs ⟨hkeys, hnamed, .inr (.inr ⟨k, p, rfl, rfl, hbound, hkey⟩)⟩ rfl rfl
    · have hlaw := s.applyCommit_law (k := k) (p := p) hkeys hnamed fun j hj => by
        rcases State.commitTarget_some htarget with hkey | ⟨-, hnone⟩
        · exact hkeys j k _ hj hkey
        · exact absurd hj (hnone j)
      exact State.storeSound_of_law hs (hlaw.congr rfl fun _ => id) rfl rfl

theorem profileDiscardBody_storeSound {s : State} (hs : s.storeSound) : (profileDiscardBody s).storeSound := by
  rcases profileDiscardBody_cases s with h | ⟨op, args, hop, he⟩
  · exact h.storeSound hs
  · rw [he]
    obtain ⟨⟨hkeys, hnamed, hpending⟩, -⟩ := s.storeSound_iff.mp hs
    have hclosed : ∀ p, Staging.closed ≠ .committing p := fun p hp => Staging.noConfusion hp
    refine State.storeSound_of_law hs ⟨hkeys, hnamed, ?_⟩ rfl rfl
    rcases hop with ⟨rfl, p, hp⟩ | ⟨rfl, p, hp⟩
    · rcases hpending with ⟨hidle, -⟩ | ⟨k, hop, -, hk⟩ | ⟨k, p', -, hp', -⟩
      · exact .inl ⟨hidle, hclosed⟩
      · exact .inr (.inl ⟨k, hop, hclosed, hk⟩)
      · exact Staging.noConfusion (hp.symm.trans hp')
    · rcases hpending with ⟨-, hp'⟩ | ⟨k, -, hp', -⟩ | ⟨k, p', hop, -⟩
      · exact absurd hp (hp' p)
      · exact absurd hp (hp' p)
      · refine .inl ⟨?_, hclosed⟩
        show s.store.pendingOp.bind StoreOp.keepDelete = none
        rw [hop]
        rfl

theorem profileDeleteBody_storeSound {s : State} (hs : s.storeSound) : (profileDeleteBody s).storeSound := by
  rcases profileDeleteBody_cases s with h | ⟨k, hidle, -, he⟩
  · exact h.storeSound hs
  · obtain ⟨⟨hkeys, hnamed, hpending⟩, -⟩ := s.storeSound_iff.mp hs
    have hstaging : ∀ p, s.store.staging ≠ .committing p := by
      rcases hpending with ⟨-, h⟩ | ⟨k, -, h, -⟩ | ⟨k, p, hop, -⟩
      · exact h
      · exact h
      · exact absurd (hidle.symm.trans hop) (by simp)
    rcases s.deleteSlot_cases k with ⟨hbound, args, he'⟩ | ⟨hfree, args, he'⟩ <;> rw [he, he']
    · exact State.storeSound_of_law hs ⟨hkeys, hnamed, .inr (.inl ⟨k, rfl, hstaging, hbound⟩)⟩ rfl rfl
    · have hlaw := State.applyDelete_law hkeys hnamed hfree hstaging
      exact State.storeSound_of_law hs (hlaw.congr rfl fun _ => id) rfl rfl

theorem portResetBody_storeSound {s : State} (hs : s.storeSound) : (portResetBody s).storeSound := by
  rcases portResetBody_cases s with h | ⟨p, args, -, he⟩
  · exact h.storeSound hs
  · rw [he]
    exact State.storeSound_congr (s.stopMesh_storeSound hs p) rfl rfl fun _ => id

theorem State.coreReset_storeSound {s : State} (hs : s.storeSound) (st : Status) (args : List Byte) :
    (s.coreReset.respond st args).storeSound := by
  obtain ⟨⟨hkeys, -, -⟩, -⟩ := s.storeSound_iff.mp hs
  rw [State.storeSound_iff]
  refine ⟨⟨hkeys, fun k hk => ?_, .inl ⟨rfl, fun p hp => Staging.noConfusion hp⟩⟩, rfl⟩
  rcases hk with hk | hk <;> cases hk

/-! ### Every command -/

theorem exec_keeps_storeSound {c : Instr} {s t : State} (h : exec c s = .next t) (hquiet : s.quietInit)
    (hs : s.storeSound) : t.storeSound := by
  have hreset : c = .powerOn ∨ c = .pinReset → t.storeSound := fun hc => by
    rcases exec_reset_cases hc h with rfl | ⟨cause, rfl⟩ | ⟨hold, -, rfl⟩
    · exact hs
    · exact State.storeSound_of_reset rfl rfl rfl
    · exact State.storeSound_of_reset rfl rfl rfl
  have command {c : Instr} {body : State → State} (hbody : (body s).storeSound) : (s.runCommand c body).storeSound :=
    State.runCommand_keeps (P := State.storeSound) c hs (State.storeSound_congr hs rfl rfl fun _ => id) hbody
  obtain ⟨hlaw, hbound⟩ := s.storeSound_iff.mp hs
  cases c with
  | powerOn => exact hreset (.inl rfl)
  | pinReset => exact hreset (.inr rfl)
  | initBusyClear =>
    cases h
    refine State.unlessHeld_keeps (P := State.storeSound) hs ?_
    split
    · rename_i hbusy
      obtain ⟨-, -, hlst, -, -, hme, -⟩ := hquiet.2 hbusy
      refine State.storeSound_of_reset rfl ?_ ?_
      · show s.me.mesh = none
        rw [hme]
        rfl
      · show s.lst.override = none
        rw [hlst]
        rfl
    · exact hs
  | grant =>
    cases h
    split
    · split
      · exact State.grantHead_storeSound hs (State.grantPort_idle ‹_›) _ _
      · exact hs
    · exact hs
  | unitPlace =>
    cases h
    split
    · rename_i m hm
      split
      · exact State.placeUnit_storeSound hlaw (by rw [hbound, hm]; rfl)
      · exact hs
    · exact hs
  | stallExpiry =>
    cases h
    split
    · split
      · exact State.closeMesh_storeSound hlaw _ _
      · exact hs
    · exact hs
  | resetCore =>
    cases h
    exact command (State.coreReset_storeSound hs _ _)
  | runControl =>
    cases h
    refine command ?_
    rcases runControlBody_cases s with h | ⟨r, args, he⟩
    · exact h.storeSound hs
    · exact he ▸ State.storeSound_congr hs rfl rfl fun _ => id
  | portReset =>
    cases h
    exact command (portResetBody_storeSound hs)
  | profileOpen =>
    cases h
    exact command (profileOpenBody_storeSound hs)
  | profileNodes =>
    cases h
    exact command (profileNodesBody_storeSound hs)
  | profileCommit =>
    cases h
    exact command (profileCommitBody_storeSound hs)
  | profileDiscard =>
    cases h
    exact command (profileDiscardBody_storeSound hs)
  | profileDelete =>
    cases h
    exact command (profileDeleteBody_storeSound hs)
  | bindOverride =>
    cases h
    refine command ?_
    rcases bindOverrideBody_cases s with h | ⟨o, args, ho, he⟩
    · exact h.storeSound hs
    · obtain ⟨hkeys, hnamed, hpending⟩ := hlaw
      rw [he]
      refine State.storeSound_of_law hs ⟨hkeys, fun k hk => ?_, hpending⟩ rfl rfl
      rcases hk with hk | hk
      · exact hnamed k (.inl hk)
      · exact (ho k hk).2
  | _ =>
    have hstore : t.store = s.store := exec_frame h (b := .store) rfl
    have hme : t.me = s.me := exec_frame h (b := .me) rfl
    refine State.storeSound_congr hs hstore (by rw [hme]) fun k hk => ?_
    rcases exec_tracker h with hfollows | ⟨hattach, -⟩ | ⟨hreset, -⟩ | ⟨hc, -⟩
    · exact hfollows.override k hk
    · rw [hattach.override] at hk
      cases hk
    · rw [hreset] at hk
      cases hk
    · cases hc

/-- Settles O58: a command while INIT_BUSY is set leaves the blocks at rest; with that, every command keeps the law of
the store. -/
theorem storeStaysSound : Obligations.StoreStaysSound := by
  refine ⟨fun s t h hs => ?_, fun s t h hquiet hs => ?_⟩
  · exact step_keeps (P := State.quietInit) (fun _ _ h => h) (fun _ _ _ => exec_keeps_quiet)
      (fun _ => State.tick_quiet) h hs
  · refine (step_keeps (P := fun s => s.quietInit ∧ s.storeSound) (fun _ _ h => h)
      (fun _ _ _ h hs => ⟨exec_keeps_quiet h hs.1, exec_keeps_storeSound h hs.1 hs.2⟩) (fun s hs => ?_) h
      ⟨hquiet, hs⟩).2
    refine ⟨State.tick_quiet hs.1, State.storeSound_congr hs.2 ?_ ?_ ?_⟩ <;> rw [State.tick_eq]
    exact fun _ => id

end Sys2Proof.Machine
end

section
/-! PROOFS. Every profile held or staged stays well formed (R6, R7, R22, R29, R31, R32): O57. -/

namespace Sys2Proof.Machine

/-! ### What a command stages (R29, R31) -/

theorem risingIn_of_ascendingIn {lo hi : Nat} {vs : List Nat} (h : ascendingIn lo hi vs = true) :
    risingIn lo hi vs := by
  induction vs generalizing lo with
  | nil => trivial
  | cons v vs ih =>
    simp only [ascendingIn, Bool.and_eq_true, decide_eq_true_eq] at h
    obtain ⟨⟨hlo, hhi⟩, hrest⟩ := h
    exact ⟨hlo, hhi, ih hrest⟩

theorem le_of_ascendingIn {lo hi : Nat} {vs : List Nat} (h : ascendingIn lo hi vs = true) : ∀ v ∈ vs, v ≤ hi := by
  induction vs generalizing lo with
  | nil => exact fun v hv => absurd hv List.not_mem_nil
  | cons v vs ih =>
    simp only [ascendingIn, Bool.and_eq_true, decide_eq_true_eq] at h
    exact List.forall_mem_cons.mpr ⟨h.1.2, ih h.2⟩

/-- A node list within its bound reads back as the numbers it was made of. -/
theorem map_toNat_ofNat {n hi : Nat} {vs : List Nat} (hhi : hi < 2 ^ n) (h : ∀ v ∈ vs, v ≤ hi) :
    (vs.map (BitVec.ofNat n)).map BitVec.toNat = vs := by
  rw [List.map_map]
  refine (List.map_congr_left fun v hv => ?_).trans (List.map_id vs)
  have := h v hv
  exact (BitVec.toNat_ofNat v n).trans (Nat.mod_eq_of_lt (by omega))

/-- The header of a PROFILE_OPEN that passes every check (R29). -/
theorem State.argHeader_sound {s : State} {focals focuses : Nat} (h : s.badOpenArgument focals focuses = none) :
    (s.argHeader focals focuses).sound := by
  have hall := firstFailing_none h
  simp only [List.forall_mem_cons, Bool.and_eq_true, decide_eq_true_eq, offsetInRange] at hall
  obtain ⟨⟨hf1, hf2⟩, ⟨hu1, hu2⟩, -, -, -, ⟨hrn1, hrn2⟩, ⟨hx1, hx2⟩, ⟨hy1, hy2⟩, hfocals, hfocuses, -⟩ := hall
  have hrn : (BitVec.ofNat 17 (s.arg 12 4)).toNat = s.arg 12 4 :=
    (BitVec.toNat_ofNat _ _).trans (Nat.mod_eq_of_lt (by omega))
  refine ⟨?_, ?_, ?_, ?_, hrn ▸ hrn1, hx1, hx2, hy1, hy2, ?_, ?_⟩
  · simpa [State.argHeader, State.argList] using hf1
  · simpa [State.argHeader, State.argList] using hf2
  · simpa [State.argHeader, State.argList] using hu1
  · simpa [State.argHeader, State.argList] using hu2
  · show risingIn 1 65535 (((s.argList 20 focals).map (BitVec.ofNat 16)).map BitVec.toNat)
    rw [map_toNat_ofNat (by decide) (le_of_ascendingIn hfocals)]
    exact risingIn_of_ascendingIn hfocals
  · show risingIn 0 4095 (((s.argList (20 + 2 * focals) focuses).map (BitVec.ofNat 12)).map BitVec.toNat)
    rw [map_toNat_ofNat (by decide) (le_of_ascendingIn hfocuses)]
    exact risingIn_of_ascendingIn hfocuses

theorem writeSets_length (table : List (Option CoeffSet)) (first : Nat) (cs : List CoeffSet) :
    (writeSets table first cs).length = table.length := by
  induction cs generalizing table first with
  | nil => rfl
  | cons c cs ih => exact (ih _ _).trans List.length_set

/-- A staged profile whose every set is written, with a fill in range (R32). -/
def Staged.Complete (p : Staged) : Prop := ∀ c ∈ p.table, ∃ x, c = some x ∧ x.fillSound

theorem fillInRange_iff (c : CoeffSet) : fillInRange c = true ↔ c.fillSound := by
  rw [fillInRange, Bool.and_eq_true, decide_eq_true_eq, decide_eq_true_eq]
  rfl

/-- A commit's two searches that find nothing. -/
theorem Staged.complete_of_checks {p : Staged} (hwritten : p.table.findIdx? Option.isNone = none)
    (hfilled : p.table.findIdx? badFill = none) : p.Complete := by
  intro c hc
  have hsome := List.findIdx?_eq_none_iff.mp hwritten c hc
  have hgood := List.findIdx?_eq_none_iff.mp hfilled c hc
  cases c with
  | none => cases hsome
  | some x => exact ⟨x, rfl, (fillInRange_iff x).mp (by simpa [badFill] using hgood)⟩

/-- What is committed is a well-formed profile. -/
theorem Staged.profile_sound {p : Staged} (hheader : p.header.sound)
    (hlength : p.table.length = p.header.focals.length * p.header.focuses.length) (hcomplete : p.Complete) :
    p.profile.sound := by
  refine ⟨hheader, by simpa [Staged.profile] using hlength, fun c hc => ?_⟩
  obtain ⟨o, ho, rfl⟩ := List.mem_map.mp hc
  obtain ⟨x, rfl, hx⟩ := hcomplete o ho
  exact hx

/-! ### Slots -/

theorem ProfileStore.cleared_profilesSound : ProfileStore.cleared.profilesSound := by
  refine ⟨fun k p hp => ?_, trivial⟩
  have : (ProfileStore.cleared.slots.get k).profile = none := by simp [ProfileStore.cleared, Vector.get]
  rw [this] at hp
  cases hp

/-- One slot replaced by a well-formed one, or an empty one. -/
theorem ProfileStore.profilesSound.setSlot {st st' : ProfileStore} (hst : st.profilesSound) {k : Fin 16} {x : Slot}
    (hx : ∀ p, x.profile = some p → p.sound) (hslots : st'.slots = st.slots.set k x) (hstaging : st'.staging.sound) :
    st'.profilesSound := by
  obtain ⟨hprofiles, -⟩ := hst
  refine ⟨fun j p hp => ?_, hstaging⟩
  rw [hslots, Vector.get_eq_getElem, Vector.getElem_set] at hp
  split at hp
  · exact hx p hp
  · exact hprofiles j p hp

theorem ProfileStore.profilesSound.setStaging {st st' : ProfileStore} (hst : st.profilesSound)
    (hslots : st'.slots = st.slots) (hstaging : st'.staging.sound) : st'.profilesSound :=
  ⟨fun k p hp => hst.1 k p (hslots ▸ hp), hstaging⟩

theorem State.applyCommit_profiles {s : State} (hs : s.store.profilesSound) {p : Staged} (hp : p.profile.sound)
    (k : Fin 16) : (s.applyCommit k p).store.profilesSound :=
  hs.setSlot (k := k) (x := ⟨s.generation k + 1, some p.profile⟩) (fun q hq => by cases hq; exact hp) rfl
    trivial

theorem State.applyDelete_profiles {s : State} (hs : s.store.profilesSound) (k : Fin 16) :
    (s.applyDelete k).store.profilesSound :=
  hs.setSlot (k := k) (x := ⟨s.generation k, none⟩) (fun q hq => by cases hq) rfl hs.2

/-! ### The release -/

/-- A commit is pending only while the staging slot is COMMITTING (R35). -/
def ProfileStore.CommitReady (st : ProfileStore) : Prop :=
  ∀ k, st.pendingOp = some (.commit k) → ∃ p, st.staging = .committing p

theorem State.storeSound.commitReady {s : State} (hs : s.storeSound) : s.store.CommitReady := by
  intro k hk
  obtain ⟨⟨-, -, hpending⟩, -⟩ := s.storeSound_iff.mp hs
  rcases hpending with ⟨hidle, -⟩ | ⟨j, hop, -⟩ | ⟨j, p, -, hp, -⟩
  · exact absurd (hidle.symm.trans hk) (by simp)
  · exact absurd (hop.symm.trans hk) (by simp)
  · exact ⟨p, hp⟩

theorem State.releaseStore_profiles {s : State} (hs : s.store.profilesSound) (hready : s.store.CommitReady) :
    s.releaseStore.store.profilesSound := by
  rcases s.releaseStore_cases with he | ⟨k, p, hop, -, hcontent, he⟩ | ⟨k, -, -, he⟩ <;> rw [he]
  · exact hs
  · obtain ⟨p', hp'⟩ := hready k hop
    have hsound := hs.2
    rw [hp'] at hcontent hsound
    cases hcontent
    obtain ⟨hheader, hlength, hcomplete⟩ := hsound
    exact State.applyCommit_profiles hs (Staged.profile_sound hheader hlength hcomplete) k
  · exact State.applyDelete_profiles hs k

/-! The engine's commands, from a store in which no commit is pending without its content. -/

section
variable {s : State} (hs : s.store.profilesSound) (hready : s.store.CommitReady)
include hs hready

theorem State.release_profiles (p : Port) (k : Fin 4) : (s.release p k).store.profilesSound :=
  State.releaseStore_profiles (s := s.setPort p _) hs hready

theorem State.closeMesh_profiles (m : Mesh) (st : MeshStatus) : (s.closeMesh m st).store.profilesSound := by
  unfold State.closeMesh
  refine State.release_profiles ?_ ?_ _ _ <;> split <;> assumption

theorem State.placeUnit_profiles (m : Mesh) : (s.placeUnit m).store.profilesSound := by
  rw [State.placeUnit_eq]
  split
  · exact hs
  · exact State.closeMesh_profiles (s := s.push _ _) hs hready _ _

theorem State.grantHead_profiles (p : Port) (r : Request) : (s.grantHead p r).store.profilesSound := by
  unfold State.grantHead
  dsimp only
  split
  · refine State.release_profiles ?_ ?_ _ _ <;> assumption
  · split
    · refine State.placeUnit_profiles ?_ ?_ _ <;> assumption
    · exact hs

theorem State.stopMesh_profiles (p : Port) : (s.stopMesh p).store.profilesSound := by
  unfold State.stopMesh
  split
  · split
    · exact State.release_profiles hs hready _ _
    · exact hs
  · exact hs

end

/-! ### The mailbox commands -/

theorem State.Answers.profiles {s t : State} (h : s.Answers t) (hs : s.store.profilesSound) :
    t.store.profilesSound := by
  obtain ⟨n, st, args, rfl⟩ := h
  exact hs

theorem profileOpenBody_profiles {s : State} (hs : s.store.profilesSound) :
    (profileOpenBody s).store.profilesSound := by
  rcases profileOpenBody_cases s with h | ⟨-, hgood, args, he⟩
  · exact h.profiles hs
  · rw [he]
    refine hs.setStaging rfl ⟨State.argHeader_sound hgood, ?_⟩
    exact List.length_replicate

theorem profileNodesBody_profiles {s : State} (hs : s.store.profilesSound) :
    (profileNodesBody s).store.profilesSound := by
  rcases profileNodesBody_cases s with h | ⟨p, first, sets, args, hopen, he⟩
  · exact h.profiles hs
  · have hsound := hs.2
    rw [hopen] at hsound
    obtain ⟨hheader, hlength⟩ := hsound
    rw [he]
    exact hs.setStaging rfl ⟨hheader, (writeSets_length _ _ _).trans hlength⟩

theorem profileCommitBody_profiles {s : State} (hs : s.store.profilesSound) :
    (profileCommitBody s).store.profilesSound := by
  rcases profileCommitBody_cases s with h | ⟨p, k, -, hopen, hwritten, hfilled, -, he⟩
  · exact h.profiles hs
  · have hsound := hs.2
    rw [hopen] at hsound
    obtain ⟨hheader, hlength⟩ := hsound
    have hcomplete := Staged.complete_of_checks hwritten hfilled
    rcases s.commitTo_cases k p with ⟨-, args, he'⟩ | ⟨-, args, he'⟩ <;> rw [he, he']
    · exact hs.setStaging rfl ⟨hheader, hlength, hcomplete⟩
    · exact State.applyCommit_profiles hs (Staged.profile_sound hheader hlength hcomplete) k

theorem profileDiscardBody_profiles {s : State} (hs : s.store.profilesSound) :
    (profileDiscardBody s).store.profilesSound := by
  rcases profileDiscardBody_cases s with h | ⟨op, args, -, he⟩
  · exact h.profiles hs
  · rw [he]
    exact hs.setStaging rfl trivial

theorem profileDeleteBody_profiles {s : State} (hs : s.store.profilesSound) :
    (profileDeleteBody s).store.profilesSound := by
  rcases profileDeleteBody_cases s with h | ⟨k, -, -, he⟩
  · exact h.profiles hs
  · rcases s.deleteSlot_cases k with ⟨-, args, he'⟩ | ⟨-, args, he'⟩ <;> rw [he, he']
    · exact hs
    · exact State.applyDelete_profiles hs k

/-! ### Every command -/

theorem exec_keeps_profiles {c : Instr} {s t : State} (h : exec c s = .next t) (hready : s.store.CommitReady)
    (hs : s.store.profilesSound) : t.store.profilesSound := by
  have hreset : c = .powerOn ∨ c = .pinReset → t.store.profilesSound := fun hc => by
    rcases exec_reset_cases hc h with rfl | ⟨cause, rfl⟩ | ⟨hold, -, rfl⟩
    · exact hs
    · exact ProfileStore.cleared_profilesSound
    · exact ProfileStore.cleared_profilesSound
  have command {c : Instr} {body : State → State} (hbody : (body s).store.profilesSound) :
      (s.runCommand c body).store.profilesSound :=
    State.runCommand_keeps (P := fun u => u.store.profilesSound) c hs hs hbody
  cases c with
  | powerOn => exact hreset (.inl rfl)
  | pinReset => exact hreset (.inr rfl)
  | initBusyClear =>
    cases h
    refine State.unlessHeld_keeps (P := fun u => u.store.profilesSound) hs ?_
    split
    · exact ProfileStore.cleared_profilesSound
    · exact hs
  | grant =>
    cases h
    split
    · split
      · exact State.grantHead_profiles hs hready _ _
      · exact hs
    · exact hs
  | unitPlace =>
    cases h
    split
    · split
      · exact State.placeUnit_profiles hs hready _
      · exact hs
    · exact hs
  | stallExpiry =>
    cases h
    split
    · split
      · exact State.closeMesh_profiles hs hready _ _
      · exact hs
    · exact hs
  | resetCore =>
    cases h
    exact command (hs.setStaging rfl trivial)
  | portReset =>
    cases h
    refine command ?_
    rcases portResetBody_cases s with h | ⟨p, args, -, he⟩
    · exact h.profiles hs
    · rw [he]
      exact State.stopMesh_profiles hs hready p
  | profileOpen =>
    cases h
    exact command (profileOpenBody_profiles hs)
  | profileNodes =>
    cases h
    exact command (profileNodesBody_profiles hs)
  | profileCommit =>
    cases h
    exact command (profileCommitBody_profiles hs)
  | profileDiscard =>
    cases h
    exact command (profileDiscardBody_profiles hs)
  | profileDelete =>
    cases h
    exact command (profileDeleteBody_profiles hs)
  | _ => exact (exec_frame h (b := .store) rfl : t.store = s.store) ▸ hs

/-- Settles O57: what is staged is checked as it comes in, and only a wholly written staged profile enters a slot. -/
theorem profilesStayWellFormed : Obligations.ProfilesStayWellFormed := by
  intro s t h hstore hs
  rcases step_cases h with ⟨c, l, hexec⟩ | rfl
  · exact exec_keeps_profiles (s := { s with pending := l }) hexec hstore.commitReady hs
  · exact (s.tick_same (b := .store) Block.noConfusion : s.tick.store = s.store) ▸ hs

end Sys2Proof.Machine
end

section
/-! PROOFS. A bound slot keeps its content; what a command may do to the slots (R24, R25): O50. -/

namespace Sys2Proof.Machine

/-- What a command may do to the slots short of their clearing: nothing, or one slot that does not stay bound takes a
profile with its next generation, or loses its profile. -/
inductive State.SlotsMove (s t : State) : Prop where
  | kept (h : t.store.slots = s.store.slots)
  | written (j : Fin 16) (p : Profile) (h : t.store.slots = s.store.slots.set j ⟨s.generation j + 1, some p⟩)
      (hfree : s.store.boundSlot = some j → t.store.boundSlot ≠ some j)
  | emptied (j : Fin 16) (h : t.store.slots = s.store.slots.set j ⟨s.generation j, none⟩)
      (hfree : s.store.boundSlot = some j → t.store.boundSlot ≠ some j)

theorem State.SlotsMove.refl (s : State) : s.SlotsMove s := .kept rfl

theorem slots_get_set (v : Vector Slot 16) (j k : Fin 16) (x : Slot) :
    (v.set j x).get k = if k = j then x else v.get k := by
  simp only [Vector.get_eq_getElem, Vector.getElem_set, Fin.ext_iff]
  split_ifs <;> first | rfl | omega

/-! ### The engine's commands, from a state with the slots of `s` -/

section
variable {s u : State} (h : u.store.slots = s.store.slots)
include h

theorem State.generation_congr (k : Fin 16) : u.generation k = s.generation k := by
  unfold State.generation
  rw [h]

theorem State.SlotsMove.release (p : Port) (k : Fin 4) : s.SlotsMove (u.release p k) := by
  unfold State.release
  set v := u.setPort p ((u.port p).free k) with hv
  have hslots : v.store.slots = s.store.slots := h
  rcases v.releaseStore_cases with he | ⟨j, c, -, -, -, he⟩ | ⟨j, -, -, he⟩ <;> rw [he]
  · exact .kept h
  · refine .written j c.profile ?_ fun _ hb => by cases hb
    rw [← State.generation_congr hslots, ← hslots]
    rfl
  · refine .emptied j ?_ fun _ hb => by cases hb
    rw [← State.generation_congr hslots, ← hslots]
    rfl

theorem State.SlotsMove.closeMesh (m : Mesh) (st : MeshStatus) : s.SlotsMove (u.closeMesh m st) := by
  unfold State.closeMesh
  refine State.SlotsMove.release ?_ _ _
  split <;> exact h

theorem State.SlotsMove.placeUnit (m : Mesh) : s.SlotsMove (u.placeUnit m) := by
  rw [State.placeUnit_eq]
  split
  · exact .kept h
  · exact State.SlotsMove.closeMesh (u := u.push _ _) h _ _

theorem State.SlotsMove.grantHead (p : Port) (r : Request) : s.SlotsMove (u.grantHead p r) := by
  unfold State.grantHead
  dsimp only
  split
  · refine State.SlotsMove.release ?_ _ _
    exact h
  · split
    · refine State.SlotsMove.placeUnit ?_ _
      exact h
    · exact .kept h

theorem State.SlotsMove.stopMesh (p : Port) : s.SlotsMove (u.stopMesh p) := by
  unfold State.stopMesh
  split
  · split
    · exact State.SlotsMove.release h _ _
    · exact .kept h
  · exact .kept h

end

/-! ### Every command -/

/-- The same store under another state: the rest of the state plays no part. -/
theorem State.SlotsMove.of_store {s t u : State} (h : s.SlotsMove t) (hstore : u.store = t.store) : s.SlotsMove u := by
  cases h with
  | kept h => exact .kept (hstore ▸ h)
  | written j p h hfree => exact .written j p (hstore ▸ h) (hstore ▸ hfree)
  | emptied j h hfree => exact .emptied j (hstore ▸ h) (hstore ▸ hfree)

theorem State.Answers.slotsMove {s t : State} (h : s.Answers t) : s.SlotsMove t := by
  obtain ⟨n, st, args, rfl⟩ := h
  exact .kept rfl

theorem profileCommitBody_slots (s : State) : s.SlotsMove (profileCommitBody s) := by
  rcases profileCommitBody_cases s with h | ⟨p, k, -, -, -, -, -, he⟩
  · exact h.slotsMove
  · rcases s.commitTo_cases k p with ⟨-, args, he'⟩ | ⟨hfree, args, he'⟩ <;> rw [he, he']
    · exact .kept rfl
    · exact .written k p.profile rfl fun hk => absurd hk hfree

theorem profileDeleteBody_slots (s : State) : s.SlotsMove (profileDeleteBody s) := by
  rcases profileDeleteBody_cases s with h | ⟨k, -, -, he⟩
  · exact h.slotsMove
  · rcases s.deleteSlot_cases k with ⟨-, args, he'⟩ | ⟨hfree, args, he'⟩ <;> rw [he, he']
    · exact .kept rfl
    · exact .emptied k rfl fun hk => absurd hk hfree

theorem portResetBody_slots (s : State) : s.SlotsMove (portResetBody s) := by
  rcases portResetBody_cases s with h | ⟨p, args, -, he⟩
  · exact h.slotsMove
  · rw [he]
    exact (State.SlotsMove.stopMesh (u := s) rfl p).of_store rfl

/-- The rows that may move a slot short of clearing the store. -/
def movesSlots : Instr → Bool
  | .profileCommit | .profileDelete | .grant | .unitPlace | .stallExpiry | .portReset => true
  | _ => false

theorem exec_slots {c : Instr} {s t : State} (h : exec c s = .next t) :
    t.store.slots = s.store.slots ∨ (movesSlots c = true ∧ s.SlotsMove t)
      ∨ (t.store = ProfileStore.cleared ∧ (c = .powerOn ∨ c = .pinReset ∨ c = .initBusyClear)) := by
  have hreset (hc : c = .powerOn ∨ c = .pinReset) :
      t.store.slots = s.store.slots ∨ t.store = ProfileStore.cleared := by
    rcases exec_reset_cases hc h with rfl | ⟨cause, rfl⟩ | ⟨hold, -, rfl⟩
    · exact .inl rfl
    · exact .inr rfl
    · exact .inr rfl
  have command {c : Instr} {body : State → State} (hbody : s.SlotsMove (body s)) :
      s.SlotsMove (s.runCommand c body) :=
    State.runCommand_keeps (P := fun u => s.SlotsMove u) c (.refl s) (.kept rfl) hbody
  have kept {c : Instr} {body : State → State} (hbody : (body s).store.slots = s.store.slots) :
      (s.runCommand c body).store.slots = s.store.slots :=
    State.runCommand_keeps (P := fun u => u.store.slots = s.store.slots) c rfl rfl hbody
  cases c with
  | powerOn => exact (hreset (.inl rfl)).imp_right fun he => .inr ⟨he, .inl rfl⟩
  | pinReset => exact (hreset (.inr rfl)).imp_right fun he => .inr ⟨he, .inr (.inl rfl)⟩
  | initBusyClear =>
    cases h
    unfold State.unlessHeld
    split
    · split
      · exact .inr (.inr ⟨rfl, .inr (.inr rfl)⟩)
      · exact .inl rfl
    · exact .inl rfl
  | grant =>
    cases h
    refine .inr (.inl ⟨rfl, ?_⟩)
    split
    · split
      · exact State.SlotsMove.grantHead rfl _ _
      · exact .refl s
    · exact .refl s
  | unitPlace =>
    cases h
    refine .inr (.inl ⟨rfl, ?_⟩)
    split
    · split
      · exact State.SlotsMove.placeUnit rfl _
      · exact .refl s
    · exact .refl s
  | stallExpiry =>
    cases h
    refine .inr (.inl ⟨rfl, ?_⟩)
    split
    · split
      · exact State.SlotsMove.closeMesh rfl _ _
      · exact .refl s
    · exact .refl s
  | resetCore =>
    cases h
    exact .inl (kept rfl)
  | portReset =>
    cases h
    exact .inr (.inl ⟨rfl, command (portResetBody_slots s)⟩)
  | profileCommit =>
    cases h
    exact .inr (.inl ⟨rfl, command (profileCommitBody_slots s)⟩)
  | profileDelete =>
    cases h
    exact .inr (.inl ⟨rfl, command (profileDeleteBody_slots s)⟩)
  | profileOpen =>
    cases h
    refine .inl (kept ?_)
    rcases profileOpenBody_cases s with ⟨n, st, args, he⟩ | ⟨-, -, args, he⟩ <;> rw [he] <;> rfl
  | profileNodes =>
    cases h
    refine .inl (kept ?_)
    rcases profileNodesBody_cases s with ⟨n, st, args, he⟩ | ⟨p, first, sets, args, -, he⟩ <;> rw [he] <;> rfl
  | profileDiscard =>
    cases h
    refine .inl (kept ?_)
    rcases profileDiscardBody_cases s with ⟨n, st, args, he⟩ | ⟨op, args, -, he⟩ <;> rw [he] <;> rfl
  | _ => exact .inl (congrArg ProfileStore.slots (exec_frame h (b := .store) rfl : t.store = s.store))

/-- The content and the generation of one slot where the slots moved. -/
theorem State.SlotsMove.slot {s t : State} (h : s.SlotsMove t) (k : Fin 16) :
    t.store.slots.get k = s.store.slots.get k
      ∨ ((s.store.boundSlot = some k → t.store.boundSlot ≠ some k)
          ∧ (t.generation k = s.generation k ∨ (t.generation k = s.generation k + 1 ∧ t.profile? k ≠ none))) := by
  unfold State.generation State.profile?
  cases h with
  | kept h => exact .inl (by rw [h])
  | written j p h hfree =>
    rw [h, slots_get_set]
    split
    · rename_i hk
      subst hk
      exact .inr ⟨hfree, .inr ⟨rfl, Option.some_ne_none _⟩⟩
    · exact .inl rfl
  | emptied j h hfree =>
    rw [h, slots_get_set]
    split
    · rename_i hk
      subst hk
      exact .inr ⟨hfree, .inl rfl⟩
    · exact .inl rfl

/-- Settles O50: the slots stay, or one of them moves that does not stay bound, or the store is cleared. -/
theorem boundSlotsAndGenerationsAreKept : Obligations.BoundSlotsAndGenerationsAreKept := by
  intro c s t k h
  have same {u : State} (hk : u.store.slots.get k = s.store.slots.get k) : u.generation k = s.generation k :=
    congrArg Slot.generation hk
  rcases exec_slots h with hkept | ⟨hc, hmove⟩ | ⟨hcleared, hc⟩
  · have hk : t.store.slots.get k = s.store.slots.get k := by rw [hkept]
    exact ⟨fun _ _ => hk, .inl (same hk), fun hne => absurd hk hne⟩
  · have hlist : c ∈ [.powerOn, .pinReset, .initBusyClear, .profileCommit, .profileDelete, .grant, .unitPlace,
        .stallExpiry, .portReset] := by
      cases c <;> first | exact Bool.noConfusion hc | simp
    rcases hmove.slot k with hk | ⟨hfree, hgeneration⟩
    · exact ⟨fun _ _ => hk, .inl (same hk), fun hne => absurd hk hne⟩
    · exact ⟨fun hs ht => absurd ht (hfree hs), hgeneration.imp_right .inl, fun _ => hlist⟩
  · refine ⟨fun _ ht => ?_, .inr (.inr ⟨?_, hc⟩), fun _ => ?_⟩
    · rw [hcleared] at ht
      cases ht
    · unfold State.generation
      rw [hcleared]
      simp [ProfileStore.cleared, Vector.get]
    · rcases hc with rfl | rfl | rfl <;> simp

end Sys2Proof.Machine
end

section
/-! PROOFS. What a row outside the engine may do to a port, move by move, and the laws that every move keeps
(R122 to R139). -/

namespace Sys2Proof.Machine

/-! ### Requests (R127, R128, R131) -/

/-- A request as a test of its wait or the resolution of its frame may leave it. -/
structure Request.Advances (r r' : Request) : Prop where
  slot : r'.slot = r.slot
  fields : r'.fields = r.fields
  engine : r'.state = .inEngine ↔ r.state = .inEngine
  sound : r.sound → r'.sound

theorem Request.Advances.refl (r : Request) : r.Advances r := ⟨rfl, rfl, Iff.rfl, id⟩

theorem Request.advances_makeReady {r : Request} (h : r.state = .pendingCover) (b : Bool) :
    r.Advances (r.makeReady b) := by
  refine ⟨rfl, rfl, by simp [Request.makeReady, h], fun hr => ?_⟩
  obtain ⟨hstate, hrest⟩ := hr
  rw [h] at hstate
  exact ⟨⟨hstate.1, rfl⟩, hrest⟩

theorem advances_settleCover (s : State) (r : Request) : r.Advances (settleCover s r) := by
  rcases settleCover_cases s r with h | ⟨hr, b, h⟩ <;> rw [h]
  · exact .refl r
  · exact Request.advances_makeReady hr b

theorem SettlesTo.advances {f : Request → Request} (hf : SettlesTo f) (r : Request) : r.Advances (f r) := by
  rcases hf r with h | ⟨hr, b, h⟩ <;> rw [h]
  · exact .refl r
  · exact Request.advances_makeReady hr b

theorem advances_resolveFrame (s : State) (rec : StrobeRecord) {r : Request} (h : r.state = .pendingFrame) :
    r.Advances (resolveFrame s rec r) := by
  obtain ⟨hslot, hfields, hstrobe, hnc, hnr, hstate⟩ := resolveFrame_cases s rec r
  refine ⟨hslot, hfields, ?_, fun hr => ?_⟩
  · rcases hstate with ⟨hready, -⟩ | ⟨hcover, -⟩
    · simp [hready, h]
    · simp [hcover, h]
  · obtain ⟨hwait, hgeometry⟩ := hr
    rw [h] at hwait
    refine ⟨?_, ?_⟩
    · rcases hstate with ⟨hready, htimer⟩ | ⟨hcover, htimer, htime⟩
      · rw [hready]
        exact ⟨by rw [hstrobe]; rfl, htimer⟩
      · rw [hcover]
        exact ⟨by rw [hstrobe]; rfl, htime, htimer ▸ hwait.2⟩
    · rw [hfields, hnc, hnr]
      exact hgeometry

theorem clampFill_toInt (v : Word) : 524288 ≤ (clampFill v).toInt ∧ (clampFill v).toInt ≤ 2097152 := by
  have hmem := clampInt_mem (lo := 524288) (hi := 2097152) (by decide) v.toInt
  unfold clampFill
  rw [BitVec.toInt_ofInt, Int.bmod_eq_of_le (by omega) (by omega)]
  exact hmem

/-- A request as it is put into a slot (R16, R107, R124). -/
theorem newRequest_sound (k : Fin 4) (f : RequestFields) (timer : Word) : (newRequest k f timer).sound := by
  refine ⟨⟨rfl, rfl⟩, rfl, rfl, ?_, fun h => ?_⟩
  · show (BitVec.ofNat 32 (min 1000000 f.exposure.toNat)).toNat ≤ 1000000
    rw [BitVec.toNat_ofNat, Nat.mod_eq_of_lt (by omega)]
    omega
  · have hmode : f.fillMode = .fixed := h
    show 524288 ≤ (if f.fillMode == .fixed then clampFill f.fixedFill else f.fixedFill).toInt
      ∧ (if f.fillMode == .fixed then clampFill f.fixedFill else f.fixedFill).toInt ≤ 2097152
    rw [hmode]
    exact clampFill_toInt f.fixedFill

/-! ### Moves -/

/-- The fields fit the array and the grid limits (R124, R136). -/
abbrev RequestFields.Fits (f : RequestFields) (c : ConfigSet) : Prop :=
  windowFits f c = true ∧ gridFits f.nc f.nr = true

/-- What a row outside the engine may do to a port at a time. -/
inductive MeshPort.Move (c : ConfigSet) : MeshPort → MeshPort → Prop where
  /-- Waits are tested, frames resolved. -/
  | advance (q : MeshPort) (f : Request → Request) (hf : ∀ r ∈ q.slots, r.Advances (f r)) :
      Move c q { q with slots := q.slots.map f }
  /-- A coverage wait ends by its timer. -/
  | endWait (q : MeshPort) (r : Request) (hr : r ∈ q.slots) (hwait : r.state = .pendingCover) :
      Move c q (q.modify r.slot fun r => r.makeReady true)
  | refuse (q : MeshPort) (r : Request) (code : RefusalCode) (g : Byte) (hr : r ∈ q.slots)
      (hwait : r.state ≠ .inEngine) : Move c q (q.refuse r code g)
  /-- A request takes a free slot, with a free place or in the place held for its record. -/
  | enter (q : MeshPort) (r : Request) (g : List Word) (hfree : ∀ x ∈ q.slots, x.slot ≠ r.slot) (hr : r.sound)
      (hwait : r.state ≠ .inEngine) (henabled : q.config.enabled = true)
      (hfits : r.fields.Fits c ∨ (q.config.mode ≠ .command ∧ r.fields = q.config.template.clamped))
      (hplace : (g = q.gathered ∧ q.freePlace = true) ∨ (g = [] ∧ q.gathered.length = 7)) :
      Move c q { q with gathered := g, slots := q.slots ++ [r] }
  /-- A record is refused at its arrival. -/
  | reject (q : MeshPort) (rec : RefuseRecord) (hfull : q.gathered.length = 7) :
      Move c q { q with gathered := [], replies := q.replies ++ [rec] }
  | gather (q : MeshPort) (w : Word) (hroom : q.gathered.length < 7) (hplace : q.gathered ≠ [] ∨ q.freePlace = true) :
      Move c q { q with gathered := q.gathered ++ [w] }
  | drop (q : MeshPort) (n : Half) : Move c q { q with dropped := n }
  | setMode (q : MeshPort) (mode : TriggerMode) (hmode : mode = q.config.mode ∨ mode = .command) :
      Move c q { q with config := { q.config with mode := mode } }
  | takeWord (q : MeshPort) : Move c q { q with fifo := q.fifo.drop 1 }
  | moveReply (q : MeshPort) (r : RefuseRecord) (rs : List RefuseRecord) (hr : q.replies = r :: rs)
      (hroom : q.fifo.length + 2 ≤ 1021) : Move c q { q with replies := rs, fifo := q.fifo ++ r.toWords }

/-- Any number of moves. -/
abbrev MeshPort.Moves (c : ConfigSet) : MeshPort → MeshPort → Prop := Relation.ReflTransGen (MeshPort.Move c)

theorem MeshPort.Settles.moves {q q' : MeshPort} (h : q.Settles q') (c : ConfigSet) : MeshPort.Moves c q q' := by
  obtain ⟨f, hf, rfl⟩ := h
  exact .single (.advance q f fun r _ => hf.advances r)

/-! ### The law of the slots and the reply queue (R122, R125, R127, R133) -/

/-- The slot of the request that the engine serves for a port, if any. -/
def Engine.slotOf (e : Engine) (p : Port) : Option (Fin 4) :=
  e.mesh.bind fun m => if m.port = p then some m.request.slot else none

/-- The engine's request is the head, alone in IN_ENGINE (R133). -/
def headLaw (busy : Option (Fin 4)) (slots : List Request) : Prop :=
  match busy with
  | some k => ∃ r rest, slots = r :: rest ∧ r.slot = k ∧ r.state = .inEngine ∧ ∀ x ∈ rest, x.state ≠ .inEngine
  | none => ∀ x ∈ slots, x.state ≠ .inEngine

/-- The law of `State.portSound`, of one port alone. -/
def MeshPort.Law (busy : Option (Fin 4)) (q : MeshPort) : Prop :=
  (q.slots.map Request.slot).Nodup ∧ q.placesUsed ≤ 8 ∧ q.gathered.length ≤ 7 ∧ (∀ r ∈ q.slots, r.sound)
    ∧ headLaw busy q.slots

theorem State.portSound_iff (s : State) (p : Port) : s.portSound p ↔ (s.port p).Law (s.me.slotOf p) := by
  have hhead : engineHead s.me.mesh p (s.port p).slots ↔ headLaw (s.me.slotOf p) (s.port p).slots := by
    unfold engineHead headLaw Engine.slotOf
    cases s.me.mesh with
    | none => rfl
    | some m => by_cases h : m.port = p <;> simp [h]
  unfold State.portSound MeshPort.Law
  rw [hhead]

theorem eq_of_slot_eq {slots : List Request} (h : (slots.map Request.slot).Nodup) {r x : Request} (hr : r ∈ slots)
    (hx : x ∈ slots) (he : x.slot = r.slot) : x = r :=
  List.inj_on_of_nodup_map h hx hr he

theorem headLaw_map {busy : Option (Fin 4)} {slots : List Request} {f : Request → Request}
    (hf : ∀ r ∈ slots, (f r).slot = r.slot ∧ ((f r).state = .inEngine ↔ r.state = .inEngine)) (h : headLaw busy slots) :
    headLaw busy (slots.map f) := by
  cases busy with
  | none =>
    intro x hx
    obtain ⟨r, hr, rfl⟩ := List.mem_map.mp hx
    exact fun he => h r hr ((hf r hr).2.mp he)
  | some k =>
    obtain ⟨r, rest, rfl, hslot, hstate, hrest⟩ := h
    obtain ⟨hfslot, hfstate⟩ := hf r List.mem_cons_self
    refine ⟨f r, rest.map f, rfl, hfslot.trans hslot, hfstate.mpr hstate, fun x hx => ?_⟩
    obtain ⟨y, hy, rfl⟩ := List.mem_map.mp hx
    exact fun he => hrest y hy ((hf y (List.mem_cons_of_mem _ hy)).2.mp he)

theorem headLaw_append {busy : Option (Fin 4)} {slots : List Request} {r : Request} (hr : r.state ≠ .inEngine)
    (h : headLaw busy slots) : headLaw busy (slots ++ [r]) := by
  cases busy with
  | none =>
    intro x hx
    rcases List.mem_append.mp hx with hx | hx
    · exact h x hx
    · exact List.mem_singleton.mp hx ▸ hr
  | some k =>
    obtain ⟨x, rest, rfl, hslot, hstate, hrest⟩ := h
    refine ⟨x, rest ++ [r], rfl, hslot, hstate, fun y hy => ?_⟩
    rcases List.mem_append.mp hy with hy | hy
    · exact hrest y hy
    · exact List.mem_singleton.mp hy ▸ hr

/-- Freeing a slot whose request is not the engine's. -/
theorem headLaw_filter {busy : Option (Fin 4)} {slots : List Request} (hnodup : (slots.map Request.slot).Nodup)
    {r : Request} (hr : r ∈ slots) (hwait : r.state ≠ .inEngine) (h : headLaw busy slots) :
    headLaw busy (slots.filter fun x => x.slot != r.slot) := by
  cases busy with
  | none => exact fun x hx => h x (List.mem_of_mem_filter hx)
  | some k =>
    obtain ⟨x, rest, rfl, hslot, hstate, hrest⟩ := h
    have hne : x.slot ≠ r.slot := fun he => by
      have hxr := eq_of_slot_eq hnodup hr List.mem_cons_self he
      exact hwait (hxr ▸ hstate)
    refine ⟨x, rest.filter fun x => x.slot != r.slot, ?_, hslot, hstate,
      fun y hy => hrest y (List.mem_of_mem_filter hy)⟩
    exact List.filter_cons_of_pos (by simpa using hne)

theorem MeshPort.freePlace_iff (q : MeshPort) : q.freePlace = true ↔ q.placesUsed < 8 := decide_eq_true_iff

theorem MeshPort.placesUsed_empty {q : MeshPort} (h : q.gathered = []) :
    q.placesUsed = q.replies.length + q.slots.length := by
  simp [MeshPort.placesUsed, MeshPort.reservations, h]

theorem MeshPort.placesUsed_held {q : MeshPort} (h : q.gathered ≠ []) :
    q.placesUsed = q.replies.length + q.slots.length + 1 := by
  simp [MeshPort.placesUsed, MeshPort.reservations, h, Nat.add_assoc]

theorem MeshPort.gathered_ne_nil {q : MeshPort} (h : q.gathered.length = 7) : q.gathered ≠ [] :=
  List.ne_nil_of_length_pos (by omega)

theorem placesUsed_refuse {q : MeshPort} {r : Request} (hr : r ∈ q.slots) (code : RefusalCode) (g : Byte) :
    (q.refuse r code g).placesUsed ≤ q.placesUsed := by
  have hless : (q.slots.filter fun x => x.slot != r.slot).length < q.slots.length :=
    List.length_filter_lt_length_iff_exists.mpr ⟨r, hr, by simp⟩
  unfold MeshPort.placesUsed MeshPort.reservations
  show (q.replies ++ [_]).length + ((q.slots.filter fun x => x.slot != r.slot).length + _) ≤ _
  rw [List.length_append, List.length_singleton]
  show q.replies.length + 1 + (_ + (if q.gathered.isEmpty then 0 else 1)) ≤ _
  omega

section
variable {busy : Option (Fin 4)} {q : MeshPort}

theorem MeshPort.Law.mapSlots (h : q.Law busy) {f : Request → Request} (hf : ∀ r ∈ q.slots, r.Advances (f r)) :
    ({ q with slots := q.slots.map f } : MeshPort).Law busy := by
  obtain ⟨hnodup, hplaces, hgathered, hsound, hhead⟩ := h
  have hslots : (q.slots.map f).map Request.slot = q.slots.map Request.slot := by
    rw [List.map_map]
    exact List.map_congr_left fun r hr => (hf r hr).slot
  refine ⟨hslots ▸ hnodup, ?_, hgathered, fun r hr => ?_,
    headLaw_map (fun r hr => ⟨(hf r hr).slot, (hf r hr).engine⟩) hhead⟩
  · simpa [MeshPort.placesUsed, MeshPort.reservations] using hplaces
  · obtain ⟨x, hx, rfl⟩ := List.mem_map.mp hr
    exact (hf x hx).sound (hsound x hx)

theorem MeshPort.Law.refuse (h : q.Law busy) {r : Request} (hr : r ∈ q.slots) (hwait : r.state ≠ .inEngine)
    (code : RefusalCode) (g : Byte) : (q.refuse r code g).Law busy := by
  obtain ⟨hnodup, hplaces, hgathered, hsound, hhead⟩ := h
  exact ⟨hnodup.sublist (List.filter_sublist.map _), (placesUsed_refuse hr code g).trans hplaces, hgathered,
    fun x hx => hsound x (List.mem_of_mem_filter hx), headLaw_filter hnodup hr hwait hhead⟩

theorem MeshPort.Law.enter (h : q.Law busy) {r : Request} {g : List Word} (hfree : ∀ x ∈ q.slots, x.slot ≠ r.slot)
    (hr : r.sound) (hwait : r.state ≠ .inEngine)
    (hplace : (g = q.gathered ∧ q.freePlace = true) ∨ (g = [] ∧ q.gathered.length = 7)) :
    ({ q with gathered := g, slots := q.slots ++ [r] } : MeshPort).Law busy := by
  obtain ⟨hnodup, hplaces, hgathered, hsound, hhead⟩ := h
  refine ⟨?_, ?_, ?_, ?_, headLaw_append hwait hhead⟩
  · rw [List.map_append]
    refine List.nodup_append.mpr ⟨hnodup, List.nodup_singleton _, fun k hk j hj => ?_⟩
    obtain ⟨x, hx, rfl⟩ := List.mem_map.mp hk
    rw [List.map_singleton, List.mem_singleton] at hj
    exact hj ▸ hfree x hx
  · rcases hplace with ⟨rfl, hroom⟩ | ⟨rfl, hfull⟩
    · rw [MeshPort.freePlace_iff] at hroom
      simp only [MeshPort.placesUsed, MeshPort.reservations, List.length_append, List.length_singleton] at hroom ⊢
      omega
    · rw [MeshPort.placesUsed_held (MeshPort.gathered_ne_nil hfull)] at hplaces
      rw [MeshPort.placesUsed_empty rfl, List.length_append, List.length_singleton]
      omega
  · rcases hplace with ⟨rfl, -⟩ | ⟨rfl, -⟩
    · exact hgathered
    · exact Nat.zero_le _
  · intro x hx
    rcases List.mem_append.mp hx with hx | hx
    · exact hsound x hx
    · exact List.mem_singleton.mp hx ▸ hr

/-- Ready for a word more, or for a record's refusal: the places held are those of the slots and of the record. -/
theorem MeshPort.Move.law {c : ConfigSet} {q' : MeshPort} (h : MeshPort.Move c q q') (hq : q.Law busy) :
    q'.Law busy := by
  cases h with
  | advance f hf => exact hq.mapSlots hf
  | endWait r hr hwait =>
    refine hq.mapSlots fun x hx => ?_
    split
    · have hxr := eq_of_slot_eq hq.1 hr hx ‹_›
      exact Request.advances_makeReady (hxr ▸ hwait) true
    · exact .refl x
  | refuse r code g hr hwait => exact hq.refuse hr hwait code g
  | enter r g hfree hr hwait henabled hfits hplace => exact hq.enter hfree hr hwait hplace
  | reject rec hfull =>
    obtain ⟨hnodup, hplaces, -, hsound, hhead⟩ := hq
    refine ⟨hnodup, ?_, Nat.zero_le _, hsound, hhead⟩
    rw [MeshPort.placesUsed_held (MeshPort.gathered_ne_nil hfull)] at hplaces
    rw [MeshPort.placesUsed_empty rfl]
    dsimp only
    rw [List.length_append, List.length_singleton]
    omega
  | gather w hroom hplace =>
    obtain ⟨hnodup, hplaces, -, hsound, hhead⟩ := hq
    refine ⟨hnodup, ?_, ?_, hsound, hhead⟩
    · rw [MeshPort.placesUsed_held (by simp)]
      by_cases hempty : q.gathered = []
      · have hlt := q.freePlace_iff.mp (hplace.resolve_left (absurd hempty))
        rw [MeshPort.placesUsed_empty hempty] at hlt
        exact hlt
      · rw [MeshPort.placesUsed_held hempty] at hplaces
        exact hplaces
    · rw [List.length_append, List.length_singleton]
      exact hroom
  | drop n => exact hq
  | setMode mode hmode => exact hq
  | takeWord => exact hq
  | moveReply r rs hr hroom =>
    obtain ⟨hnodup, hplaces, hgathered, hsound, hhead⟩ := hq
    refine ⟨hnodup, ?_, hgathered, hsound, hhead⟩
    simp only [MeshPort.placesUsed, MeshPort.reservations, hr, List.length_cons] at hplaces ⊢
    omega

theorem MeshPort.Moves.law {c : ConfigSet} {q' : MeshPort} (h : MeshPort.Moves c q q') (hq : q.Law busy) :
    q'.Law busy := by
  induction h with
  | refl => exact hq
  | tail _ hmove ih => exact hmove.law ih

end

end Sys2Proof.Machine
end

section
/-! PROOFS. The rows outside the engine move the ports (R122 to R139), and what the moves mean for configuration and
FIFO (R120, R121, R138, R152). -/

namespace Sys2Proof.Machine

/-! ### The law of the configuration (R120, R121, R124, R136) -/

/-- The law of `State.portConfigured`, of one port and the configuration set. -/
def MeshPort.Configured (c : ConfigSet) (q : MeshPort) : Prop :=
  1 ≤ q.config.waitLimit.toNat ∧ 1 ≤ q.config.stallLimit.toNat ∧ (q.config.enabled = false → q.slots = [])
    ∧ (q.config.enabled = true → c.width ≠ 0 ∧ c.height ≠ 0 ∧ (q.config.mode ≠ .command → q.config.template.Fits c)
        ∧ ∀ r ∈ q.slots, r.fields.Fits c)

theorem State.portConfigured_iff (s : State) (p : Port) : s.portConfigured p ↔ (s.port p).Configured s.config := Iff.rfl

/-- Requests that come from requests of the port, field for field. -/
theorem MeshPort.Configured.ofSlots {c : ConfigSet} {q q' : MeshPort} (h : q.Configured c)
    (hconfig : q'.config = q.config)
    (hslots : ∀ r' ∈ q'.slots, ∃ r ∈ q.slots, r'.fields = r.fields) : q'.Configured c := by
  obtain ⟨hwait, hstall, hdisabled, henabled⟩ := h
  unfold MeshPort.Configured
  rw [hconfig]
  refine ⟨hwait, hstall, fun hoff => ?_, fun hon => ?_⟩
  · refine List.eq_nil_iff_forall_not_mem.mpr fun r' hr' => ?_
    obtain ⟨r, hr, -⟩ := hslots r' hr'
    rw [hdisabled hoff] at hr
    exact List.not_mem_nil hr
  · obtain ⟨hw, hh, htemplate, hfits⟩ := henabled hon
    refine ⟨hw, hh, htemplate, fun r' hr' => ?_⟩
    obtain ⟨r, hr, he⟩ := hslots r' hr'
    rw [he]
    exact hfits r hr

theorem MeshPort.Move.configured {c : ConfigSet} {q q' : MeshPort} (h : MeshPort.Move c q q') (hq : q.Configured c) :
    q'.Configured c := by
  cases h with
  | advance f hf =>
    refine hq.ofSlots rfl fun r' hr' => ?_
    obtain ⟨r, hr, rfl⟩ := List.mem_map.mp hr'
    exact ⟨r, hr, (hf r hr).fields⟩
  | endWait r hr hwait =>
    refine hq.ofSlots rfl fun x' hx' => ?_
    obtain ⟨x, hx, rfl⟩ := List.mem_map.mp hx'
    exact ⟨x, hx, by split <;> rfl⟩
  | refuse r code g hr hwait => exact hq.ofSlots rfl fun x hx => ⟨x, List.mem_of_mem_filter hx, rfl⟩
  | enter r g hfree hr hwait hon hfits hplace =>
    obtain ⟨hwaitLimit, hstall, -, henabled⟩ := hq
    refine ⟨hwaitLimit, hstall, fun hoff => absurd (hoff.symm.trans hon) Bool.noConfusion, fun _ => ?_⟩
    obtain ⟨hw, hh, htemplate, hslots⟩ := henabled hon
    refine ⟨hw, hh, htemplate, fun x hx => ?_⟩
    rcases List.mem_append.mp hx with hx | hx
    · exact hslots x hx
    · rw [List.mem_singleton.mp hx]
      rcases hfits with hfits | ⟨hmode, hfields⟩
      · exact hfits
      · rw [hfields]
        exact htemplate hmode
  | setMode mode hmode =>
    obtain ⟨hwaitLimit, hstall, hdisabled, henabled⟩ := hq
    refine ⟨hwaitLimit, hstall, hdisabled, fun hon => ?_⟩
    obtain ⟨hw, hh, htemplate, hslots⟩ := henabled hon
    refine ⟨hw, hh, fun hne => ?_, hslots⟩
    rcases hmode with rfl | rfl
    · exact htemplate hne
    · exact absurd rfl hne
  | reject rec hfull => exact hq
  | gather w hroom hplace => exact hq
  | drop n => exact hq
  | takeWord => exact hq
  | moveReply r rs hr hroom => exact hq

theorem MeshPort.Moves.configured {c : ConfigSet} {q q' : MeshPort} (h : MeshPort.Moves c q q') (hq : q.Configured c) :
    q'.Configured c := by
  induction h with
  | refl => exact hq
  | tail _ hmove ih => exact hmove.configured ih

/-! ### The FIFO (R138, R139) -/

/-- A move fills the FIFO to at most 1021 words, or leaves it no longer than it was. -/
theorem MeshPort.Move.fifo {c : ConfigSet} {q q' : MeshPort} (h : MeshPort.Move c q q') :
    q'.fifo.length ≤ max 1021 q.fifo.length := by
  cases h with
  | takeWord =>
    rw [List.length_drop]
    omega
  | moveReply r rs hr hroom =>
    rw [List.length_append]
    exact le_max_of_le_left hroom
  | _ => exact le_max_right _ _

theorem MeshPort.Moves.fifo {c : ConfigSet} {q q' : MeshPort} (h : MeshPort.Moves c q q') :
    q'.fifo.length ≤ max 1021 q.fifo.length := by
  induction h with
  | refl => exact le_max_right _ _
  | tail _ hmove ih =>
    have := hmove.fifo
    omega

/-! ### A strobe at its port (R130, R134, R135) -/

theorem MeshPort.moves_resolvePending (s : State) (p : Port) (rec : StrobeRecord) :
    MeshPort.Moves s.config (s.port p) ((s.resolvePending p rec).port p) := by
  unfold State.resolvePending
  dsimp only
  rw [State.port_setPort]
  refine .single (.advance _ _ fun r _ => ?_)
  split
  · rename_i hr
    exact advances_resolveFrame s rec hr.1
  · exact .refl r

/-- A strobe request enters a free slot of a port with a free place that strobes serve. -/
theorem MeshPort.move_makeStrobeRequest (s : State) (p : Port) (rec : StrobeRecord) {k : Fin 4}
    (hfree : ∀ x ∈ (s.port p).slots, x.slot ≠ k) (hplace : (s.port p).freePlace = true)
    (henabled : (s.port p).config.enabled = true) (hmode : (s.port p).config.mode ≠ .command) :
    MeshPort.Move s.config (s.port p) ((s.makeStrobeRequest p rec k).port p) := by
  unfold State.makeStrobeRequest
  dsimp only
  rw [State.port_setPort]
  set r := newRequest k (s.port p).config.template (expiry s.time (millis (s.port p).config.waitLimit.toNat))
  have hadvance : r.Advances (resolveFrame s rec r) := advances_resolveFrame s rec rfl
  refine MeshPort.Move.enter _ _ (s.port p).gathered ?_ (hadvance.sound (newRequest_sound _ _ _)) ?_ henabled
    (.inr ⟨hmode, hadvance.fields⟩) (.inl ⟨rfl, hplace⟩)
  · rw [hadvance.slot]
    exact hfree
  · rw [Ne, hadvance.engine]
    exact SlotState.noConfusion

theorem MeshPort.move_dropStrobe (s : State) (p : Port) :
    MeshPort.Move s.config (s.port p) ((s.dropStrobe p).port p) := by
  unfold State.dropStrobe
  dsimp only
  rw [State.post_port, State.port_setPort]
  exact .drop _ _

theorem MeshPort.moves_strobeRequest (s : State) (p : Port) (rec : StrobeRecord)
    (henabled : (s.port p).config.enabled = true) (hmode : (s.port p).config.mode ≠ .command) :
    MeshPort.Moves s.config (s.port p) ((s.strobeRequest p rec).port p) := by
  unfold State.strobeRequest
  dsimp only
  split
  · exact .single (MeshPort.move_dropStrobe s p)
  · rename_i hplace
    have hplace : (s.port p).freePlace = true := by simpa using hplace
    split
    · rename_i k hk
      exact .single (MeshPort.move_makeStrobeRequest s p rec (freeSlot_some.mp hk).1 hplace henabled hmode)
    · split
      · rename_i r _ hr
        have hmem : r ∈ (s.port p).slots := List.mem_of_find?_eq_some hr
        have hwait : r.state ≠ .inEngine := by simpa using List.find?_some hr
        refine .tail (.single (.refuse _ r .superseded 0 hmem hwait)) ?_
        have hmove := MeshPort.move_makeStrobeRequest
          (s.setPort p ((s.port p).refuse r .superseded 0)) p rec (k := r.slot)
        rw [State.port_setPort] at hmove
        refine hmove (fun x hx => ?_) ?_ henabled hmode
        · simpa using (List.mem_filter.mp hx).2
        · rw [MeshPort.freePlace_iff] at hplace ⊢
          exact (placesUsed_refuse hmem _ _).trans_lt hplace
      · exact .single (MeshPort.move_dropStrobe s p)

theorem MeshPort.moves_portStrobe (s : State) (p : Port) (rec : StrobeRecord) :
    MeshPort.Moves s.config (s.port p) ((s.portStrobe p rec).port p) := by
  unfold State.portStrobe
  dsimp only
  have hresolved := MeshPort.moves_resolvePending s p rec
  split
  · rename_i hserves
    simp only [Bool.and_eq_true, bne_iff_ne] at hserves
    refine hresolved.trans (.trans
      (MeshPort.moves_strobeRequest (s.resolvePending p rec) p rec hserves.1 hserves.2) (.single ?_))
    rw [State.port_setPort]
    refine .setMode _ _ ?_
    cases ((s.resolvePending p rec).strobeRequest p rec |>.port p).config.mode
    · exact .inl rfl
    · exact .inl rfl
    · exact .inr rfl
  · exact hresolved

/-! ### The request channel and the waits (R122, R124, R131) -/

theorem MeshPort.move_judgeRecord (s : State) (p : Port) (f : RequestFields) (hfull : (s.port p).gathered.length = 7) :
    MeshPort.Move s.config (s.port p) ((s.judgeRecord p f).port p) := by
  have refused : ∀ code, MeshPort.Move s.config (s.port p) ((s.refuseRecord p f code).port p) := fun code => by
    unfold State.refuseRecord
    dsimp only
    rw [State.port_setPort]
    exact .reject _ _ hfull
  unfold State.judgeRecord
  split
  · rename_i k hjudge hk
    unfold State.judge at hjudge
    dsimp only at hjudge
    split_ifs at hjudge with hoff hmode hwindow hgrid hslot hframe
    have hon : (s.port p).config.enabled = true := by simpa using hoff
    have hfits : f.Fits s.config := ⟨by simpa using hwindow, by simpa using hgrid⟩
    set r := newRequest k f (expiry s.time (millis (s.port p).config.waitLimit.toNat)) with hr
    have hnew := newRequest_sound k f (expiry s.time (millis (s.port p).config.waitLimit.toNat))
    unfold State.acceptRecord
    dsimp only
    rw [State.port_setPort, ← hr]
    have henter : ∀ r', r.Advances r' →
        MeshPort.Move s.config (s.port p) { s.port p with gathered := [], slots := (s.port p).slots ++ [r'] } := by
      intro r' hadvance
      refine .enter _ r' [] ?_ (hadvance.sound hnew) ?_ hon (.inl ?_) (.inr ⟨rfl, hfull⟩)
      · rw [hadvance.slot]
        exact (freeSlot_some.mp hk).1
      · rw [Ne, hadvance.engine]
        exact SlotState.noConfusion
      · rw [hadvance.fields]
        exact hfits
    split
    · exact henter _ (advances_resolveFrame s _ rfl)
    · exact henter _ (.refl r)
  · exact refused _
  · exact refused _

theorem MeshPort.moves_expireWait (c : ConfigSet) {q : MeshPort} {r : Request} (hr : r ∈ q.slots) :
    MeshPort.Moves c q (q.expireWait r) := by
  unfold MeshPort.expireWait
  split
  · exact .single (.refuse q r _ _ hr (by simp [*]))
  · exact .single (.endWait q r hr ‹_›)
  · exact .refl
  · exact .refl

/-! ### The rows -/

/-- The rows whose effect on the ports is a number of moves. -/
def movesPorts (c : Instr) : Bool :=
  isLensRow c || match c with
    | .strobe _ | .requestRecord _ _ | .waitTimerExpiry _ _ | .wordTaken _ | .refuseRecordMove _
    | .requestWordTaken _ _ => true
    | _ => false

/-- One port moves, the other stays. -/
theorem State.moves_of_port {s t : State} {p : Port} (h : MeshPort.Moves s.config (s.port p) (t.port p))
    (hother : t.port (portOther p) = s.port (portOther p)) (p' : Port) :
    MeshPort.Moves s.config (s.port p') (t.port p') := by
  rcases eq_or_other p p' with rfl | rfl
  · exact h
  · rw [hother]

theorem State.moves_of_setPort {s : State} {p : Port} {q : MeshPort} (h : MeshPort.Moves s.config (s.port p) q)
    (p' : Port) : MeshPort.Moves s.config (s.port p') ((s.setPort p q).port p') :=
  State.moves_of_port (by rwa [State.port_setPort]) (State.port_setPort_other s p q) p'

/-! A strobe, a record and a reset of one port leave the other port alone. -/

theorem State.dropStrobe_other (s : State) (p : Port) :
    (s.dropStrobe p).port (portOther p) = s.port (portOther p) := by
  unfold State.dropStrobe
  simp

theorem State.strobeRequest_other (s : State) (p : Port) (rec : StrobeRecord) :
    (s.strobeRequest p rec).port (portOther p) = s.port (portOther p) := by
  have make : ∀ (u : State) k, (u.makeStrobeRequest p rec k).port (portOther p) = u.port (portOther p) :=
    fun u k => State.port_setPort_other _ _ _
  unfold State.strobeRequest
  dsimp only
  split
  · exact s.dropStrobe_other p
  · split
    · exact make _ _
    · split
      · exact (make _ _).trans (State.port_setPort_other _ _ _)
      · exact s.dropStrobe_other p

theorem State.portStrobe_other (s : State) (p : Port) (rec : StrobeRecord) :
    (s.portStrobe p rec).port (portOther p) = s.port (portOther p) := by
  have hresolved : (s.resolvePending p rec).port (portOther p) = s.port (portOther p) := State.port_setPort_other _ _ _
  unfold State.portStrobe
  dsimp only
  split
  · rw [State.port_setPort_other, State.strobeRequest_other, hresolved]
  · exact hresolved

theorem State.judgeRecord_other (s : State) (p : Port) (f : RequestFields) :
    (s.judgeRecord p f).port (portOther p) = s.port (portOther p) := by
  unfold State.judgeRecord
  split <;> exact State.port_setPort_other _ _ _

/-- The port whose row a command is. -/
def rowPort : Instr → Option Port
  | .strobe p | .lossTimerExpiry p | .requestRecord p _ | .waitTimerExpiry p _ | .wordTaken p | .refuseRecordMove p
  | .requestWordTaken p _ => some p
  | _ => none

/-- A row of one port leaves the other port and its strobe unit as they were. -/
theorem exec_rowPort_other {c : Instr} {p : Port} (hc : rowPort c = some p) {s t : State} (h : exec c s = .next t) :
    t.port (portOther p) = s.port (portOther p) ∧ t.tsu.get (portOther p) = s.tsu.get (portOther p) := by
  cases c <;> cases hc
  case strobe =>
    cases h
    split
    · exact ⟨rfl, rfl⟩
    · rw [State.portStrobe_other, State.portStrobe_tsu, State.postLock_tsu,
        State.port_of_ports (State.postLock_ports _ _ _)]
      exact ⟨rfl, PerPort.get_set_other _ _ _⟩
  case lossTimerExpiry =>
    cases h
    split
    · exact ⟨rfl, PerPort.get_set_other _ _ _⟩
    · exact ⟨rfl, rfl⟩
  case requestRecord =>
    refine ⟨?_, congrArg (PerPort.get · _) (exec_frame h (b := .tsu) rfl : t.tsu = s.tsu)⟩
    cases h
    dsimp only
    split
    · exact s.judgeRecord_other p _
    · rfl
  case waitTimerExpiry =>
    refine ⟨?_, congrArg (PerPort.get · _) (exec_frame h (b := .tsu) rfl : t.tsu = s.tsu)⟩
    cases h
    split
    · split
      · exact State.port_setPort_other _ _ _
      · rfl
    · rfl
  case wordTaken =>
    cases h
    exact ⟨State.port_setPort_other _ _ _, rfl⟩
  case refuseRecordMove =>
    refine ⟨?_, congrArg (PerPort.get · _) (exec_frame h (b := .tsu) rfl : t.tsu = s.tsu)⟩
    cases h
    dsimp only
    split
    · split
      · exact State.port_setPort_other _ _ _
      · rfl
    · rfl
  case requestWordTaken =>
    refine ⟨?_, congrArg (PerPort.get · _) (exec_frame h (b := .tsu) rfl : t.tsu = s.tsu)⟩
    cases h
    dsimp only
    split
    · exact State.port_setPort_other _ _ _
    · rfl

theorem exec_moves {c : Instr} (hc : movesPorts c = true) {s t : State} (h : exec c s = .next t) (p : Port) :
    MeshPort.Moves s.config (s.port p) (t.port p) := by
  by_cases hlens : isLensRow c = true
  · exact ((exec_lensEffect hlens h).ports p).moves _
  · have own {p' : Port} (hp : rowPort c = some p') (hown : MeshPort.Moves s.config (s.port p') (t.port p')) :
        MeshPort.Moves s.config (s.port p) (t.port p) :=
      State.moves_of_port hown (exec_rowPort_other hp h).1 p
    cases c <;> first | exact Bool.noConfusion hc | exact absurd rfl hlens | skip
    case strobe p' =>
      refine own rfl ?_
      cases h
      split
      · exact .refl
      · set u : State := { s with tsu := s.tsu.set p' ((s.tsu.get p').capture s.time).1 }
        have hmoves := MeshPort.moves_portStrobe (u.postLock p' ((s.tsu.get p').capture s.time).2.2) p'
          ((s.tsu.get p').capture s.time).2.1
        rwa [State.postLock_config, State.port_of_ports (State.postLock_ports _ _ _)] at hmoves
    case requestRecord p' w =>
      refine own rfl ?_
      cases h
      dsimp only
      split
      · rename_i hready
        exact .single (MeshPort.move_judgeRecord s p' _ (by simpa using (Bool.and_eq_true_iff.mp hready).2))
      · exact .refl
    case waitTimerExpiry p' k =>
      cases h
      split
      · rename_i r hr
        split
        · exact State.moves_of_setPort (MeshPort.moves_expireWait _ (List.mem_of_find?_eq_some hr)) p
        · exact .refl
      · exact .refl
    case wordTaken p' =>
      cases h
      exact State.moves_of_setPort (.single (.takeWord _)) p
    case refuseRecordMove p' =>
      cases h
      dsimp only
      split
      · rename_i r rs hr
        split
        · rename_i hmay
          refine State.moves_of_setPort (.single (.moveReply _ r rs hr ?_)) p
          simpa [Config.fifoLimit] using (Bool.and_eq_true_iff.mp hmay).2
        · exact .refl
      · exact .refl
    case requestWordTaken p' w =>
      cases h
      dsimp only
      split
      · rename_i hready
        simp only [Bool.and_eq_true, decide_eq_true_eq, State.requestReady, Bool.or_eq_true, Bool.not_eq_true',
          List.isEmpty_eq_false_iff] at hready
        exact State.moves_of_setPort (.single (.gather _ w hready.2 hready.1.2)) p
      · exact .refl

end Sys2Proof.Machine
end

section
/-! PROOFS. The engine's commands at the ports: head, slots and FIFO (R128, R133, R138, R152, R155, R156). -/

namespace Sys2Proof.Machine

/-! ### The ports after each operation -/

theorem State.release_port_other (s : State) (p : Port) (k : Fin 4) :
    (s.release p k).port (portOther p) = s.port (portOther p) := by
  unfold State.release
  show ((s.setPort p ((s.port p).free k)).releaseStore.ports).get (portOther p) = _
  rw [State.releaseStore_ports]
  exact State.port_setPort_other _ _ _

/-- The trailer enters the FIFO, and the slot is freed (R155, R156). -/
theorem State.closeMesh_port (s : State) (m : Mesh) (st : MeshStatus) :
    (s.closeMesh m st).port m.port
      = { (s.port m.port).free m.request.slot with fifo := (s.port m.port).fifo ++ trailer m st } := by
  unfold State.closeMesh
  dsimp only
  rw [State.release_port]
  split
  · rw [State.post_port, State.push, State.port_setPort]
    rfl
  · rw [State.push, State.port_setPort]
    rfl

theorem State.closeMesh_port_other (s : State) (m : Mesh) (st : MeshStatus) :
    (s.closeMesh m st).port (portOther m.port) = s.port (portOther m.port) := by
  unfold State.closeMesh
  dsimp only
  rw [State.release_port_other]
  split
  · rw [State.post_port]
    exact State.port_setPort_other _ _ _
  · exact State.port_setPort_other _ _ _

/-- A unit placed: the mesh goes on, or its trailer follows at once and its slot is freed. -/
theorem State.placeUnit_port (s : State) (m : Mesh) :
    (s.placeUnit m).port (portOther m.port) = s.port (portOther m.port)
      ∧ ((∃ m', (s.placeUnit m).me.mesh = some m' ∧ m'.port = m.port ∧ m'.request = m.request
            ∧ (s.placeUnit m).port m.port = { s.port m.port with fifo := (s.port m.port).fifo ++ m.unit.words })
          ∨ ((s.placeUnit m).me.mesh = none
            ∧ ∃ st, (s.placeUnit m).port m.port = { (s.port m.port).free m.request.slot with
                fifo := (s.port m.port).fifo ++ m.unit.words ++ trailer m.placed st })) := by
  obtain ⟨hport, hrequest, -⟩ := m.placed_frame
  rw [State.placeUnit_eq]
  split
  · refine ⟨State.port_setPort_other _ _ _, .inl ⟨_, rfl, hport, hrequest, State.port_setPort _ _ _⟩⟩
  · generalize (if m.epochChanged = true then MeshStatus.lensChanged else MeshStatus.complete) = st
    have hown := (s.push m.port m.unit.words).closeMesh_port m.placed st
    have hother := (s.push m.port m.unit.words).closeMesh_port_other m.placed st
    rw [hport] at hown hother
    refine ⟨hother.trans (State.port_setPort_other _ _ _),
      .inr ⟨congrArg Engine.mesh (State.closeMesh_me _ _ _), st, ?_⟩⟩
    rw [hown, hrequest, State.push, State.port_setPort]
    rfl

theorem trailer_length (m : Mesh) (st : MeshStatus) : (trailer m st).length = 3 := rfl

theorem State.fits_iff (s : State) (p : Port) (u : MeshUnit) :
    s.fits p u = true ↔ (s.port p).fifo.length + u.words.length ≤ 1021 := decide_eq_true_iff

/-! ### Slots (R128, R133) -/

theorem headLaw_cons {r : Request} {rest : List Request} (h : headLaw none (r :: rest)) : headLaw none rest :=
  fun x hx => h x (List.mem_cons_of_mem _ hx)

/-- The engine's slot freed, or a slot freed while the engine serves none of the port. -/
theorem MeshPort.Law.free {busy : Option (Fin 4)} {q : MeshPort} {k : Fin 4} (h : q.Law busy)
    (hbusy : busy = some k ∨ busy = none) : (q.free k).Law none := by
  obtain ⟨hnodup, hplaces, hgathered, hsound, hhead⟩ := h
  refine ⟨hnodup.sublist (List.filter_sublist.map _), ?_, hgathered, fun x hx => hsound x (List.mem_of_mem_filter hx),
    fun x hx => ?_⟩
  · have hless : (q.free k).slots.length ≤ q.slots.length := List.length_filter_le _ _
    exact (Nat.add_le_add_left (Nat.add_le_add_right hless _) _).trans hplaces
  · obtain ⟨hmem, hne⟩ := List.mem_filter.mp hx
    rcases hbusy with rfl | rfl
    · obtain ⟨r, rest, he, hslot, -, hrest⟩ := hhead
      rw [he] at hmem
      rcases List.mem_cons.mp hmem with rfl | hmem
      · simp [hslot] at hne
      · exact hrest x hmem
    · exact hhead x hmem

/-- The head enters the engine (R149). -/
theorem MeshPort.Law.serve {q : MeshPort} {r : Request} (h : q.Law none) (hhead : q.head? = some r)
    (hready : r.state = .ready) :
    (q.modify r.slot fun r => { r with state := .inEngine }).Law (some r.slot) := by
  obtain ⟨hnodup, hplaces, hgathered, hsound, hidle⟩ := h
  obtain ⟨rest, hslots⟩ : ∃ rest, q.slots = r :: rest := List.head?_eq_some_iff.mp hhead
  have hrest : ∀ x ∈ rest, x.slot ≠ r.slot := by
    rw [hslots, List.map_cons, List.nodup_cons] at hnodup
    exact fun x hx he => hnodup.1 (List.mem_map.mpr ⟨x, hx, he⟩)
  have hmodified : (q.modify r.slot fun r => { r with state := .inEngine }).slots
      = { r with state := .inEngine } :: rest := by
    show q.slots.map _ = _
    rw [hslots]
    exact map_slot_head _ hrest
  rw [hslots] at hnodup hidle hsound
  refine ⟨?_, ?_, hgathered, ?_, ?_⟩
  · rw [hmodified]
    exact hnodup
  · simp only [MeshPort.placesUsed, MeshPort.reservations, MeshPort.modify, List.length_map] at hplaces ⊢
    exact hplaces
  · rw [hmodified]
    obtain ⟨hr, hsound⟩ := List.forall_mem_cons.mp hsound
    refine List.forall_mem_cons.mpr ⟨?_, hsound⟩
    obtain ⟨hstate, hgeometry⟩ := hr
    rw [hready] at hstate
    exact ⟨hstate, hgeometry⟩
  · rw [hmodified]
    exact ⟨_, rest, rfl, rfl, rfl, headLaw_cons hidle⟩

/-- The law of both ports' slots and reply queues. -/
def State.PortsLaw (s : State) : Prop := ∀ p, (s.port p).Law (s.me.slotOf p)

theorem Engine.slotOf_none {e : Engine} (h : e.mesh = none) (p : Port) : e.slotOf p = none := by
  unfold Engine.slotOf
  rw [h]
  rfl

theorem Engine.slotOf_own {e : Engine} {m : Mesh} (h : e.mesh = some m) : e.slotOf m.port = some m.request.slot := by
  unfold Engine.slotOf
  simp [h]

theorem Engine.slotOf_other {e : Engine} {m : Mesh} (h : e.mesh = some m) : e.slotOf (portOther m.port) = none := by
  unfold Engine.slotOf
  simp [h, (portOther_ne m.port).symm]

/-- With the engine idle the law asks the same of both ports. -/
theorem State.portsLaw_idle {s : State} {p : Port} (hmesh : s.me.mesh = none) (hown : (s.port p).Law none)
    (hother : (s.port (portOther p)).Law none) : s.PortsLaw := by
  intro p'
  rw [Engine.slotOf_none hmesh]
  rcases eq_or_other p p' with rfl | rfl
  · exact hown
  · exact hother

theorem State.portsLaw_busy {s : State} {m : Mesh} (hmesh : s.me.mesh = some m)
    (hown : (s.port m.port).Law (some m.request.slot)) (hother : (s.port (portOther m.port)).Law none) :
    s.PortsLaw := by
  intro p'
  rcases eq_or_other m.port p' with rfl | rfl
  · rw [Engine.slotOf_own hmesh]
    exact hown
  · rw [Engine.slotOf_other hmesh]
    exact hother

theorem State.PortsLaw.busy {s : State} (hs : s.PortsLaw) {m : Mesh} (hmesh : s.me.mesh = some m) :
    (s.port m.port).Law (some m.request.slot) ∧ (s.port (portOther m.port)).Law none := by
  have hown := hs m.port
  have hother := hs (portOther m.port)
  rw [Engine.slotOf_own hmesh] at hown
  rw [Engine.slotOf_other hmesh] at hother
  exact ⟨hown, hother⟩

theorem State.release_law {s : State} {p : Port} {k : Fin 4} {busy : Option (Fin 4)} (hown : (s.port p).Law busy)
    (hbusy : busy = some k ∨ busy = none) (hother : (s.port (portOther p)).Law none) : (s.release p k).PortsLaw := by
  refine State.portsLaw_idle (p := p) (congrArg Engine.mesh (s.release_me p k)) ?_ ?_
  · rw [State.release_port]
    exact hown.free hbusy
  · rw [State.release_port_other]
    exact hother

section
variable {s : State} {m : Mesh} (hown : (s.port m.port).Law (some m.request.slot))
  (hother : (s.port (portOther m.port)).Law none)
include hown hother

theorem State.closeMesh_law (st : MeshStatus) : (s.closeMesh m st).PortsLaw := by
  refine State.portsLaw_idle (p := m.port) (congrArg Engine.mesh (s.closeMesh_me m st)) ?_ ?_
  · rw [State.closeMesh_port]
    exact hown.free (.inl rfl)
  · rw [State.closeMesh_port_other]
    exact hother

theorem State.placeUnit_law : (s.placeUnit m).PortsLaw := by
  obtain ⟨hsame, ⟨m', hmesh, hport, hrequest, hplaced⟩ | ⟨hmesh, st, hclosed⟩⟩ := s.placeUnit_port m
  · refine State.portsLaw_busy hmesh ?_ ?_
    · rw [hport, hrequest, hplaced]
      exact hown
    · rw [hport, hsame]
      exact hother
  · refine State.portsLaw_idle (p := m.port) hmesh ?_ ?_
    · rw [hclosed]
      exact hown.free (.inl rfl)
    · rw [hsame]
      exact hother

end

theorem State.grantHead_law {s : State} (hs : s.PortsLaw) (hmesh : s.me.mesh = none) {p : Port} {r : Request}
    (hhead : (s.port p).head? = some r) (hready : r.state = .ready) : (s.grantHead p r).PortsLaw := by
  have hown := hs p
  have hother := hs (portOther p)
  rw [Engine.slotOf_none hmesh] at hown hother
  have hmem : r ∈ (s.port p).slots := List.mem_of_head? hhead
  unfold State.grantHead
  dsimp only
  split
  · refine State.release_law (busy := none) ?_ (.inr rfl) ?_
    · rw [State.port_setPort]
      exact hown.refuse hmem (by simp [hready]) _ _
    · rw [State.port_setPort_other]
      exact hother
  · have hserved := hown.serve hhead hready
    split
    · refine State.placeUnit_law (m := newMesh s p r _) ?_ ?_
      · show ((State.setPort _ p _).port p).Law _
        rw [State.port_setPort]
        exact hserved
      · show ((State.setPort _ p _).port (portOther p)).Law _
        rw [State.port_setPort_other]
        exact hother
    · refine State.portsLaw_busy rfl ?_ ?_
      · show ((State.setPort _ p _).port p).Law _
        rw [State.port_setPort]
        exact hserved
      · show ((State.setPort _ p _).port (portOther p)).Law _
        rw [State.port_setPort_other]
        exact hother

theorem State.stopMesh_law {s : State} (hs : s.PortsLaw) (p : Port) : (s.stopMesh p).PortsLaw := by
  unfold State.stopMesh
  split
  · rename_i m hmesh
    split
    · rename_i hp
      subst hp
      obtain ⟨hown, hother⟩ := hs.busy hmesh
      exact State.release_law hown (.inl rfl) hother
    · exact hs
  · exact hs

/-- After PORT n's mesh has been stopped, the engine serves nothing of the port. -/
theorem State.stopMesh_slotOf (s : State) (p : Port) : (s.stopMesh p).me.slotOf p = none := by
  unfold State.stopMesh
  split
  · rename_i m hmesh
    split
    · exact Engine.slotOf_none (congrArg Engine.mesh (State.release_me _ _ _)) p
    · rename_i hne
      unfold Engine.slotOf
      simp [hmesh, hne]
  · rename_i hmesh
    exact Engine.slotOf_none hmesh p

theorem MeshPort.law_empty {busy : Option (Fin 4)} {q : MeshPort} (hbusy : busy = none) (hgathered : q.gathered = [])
    (hslots : q.slots = []) (hreplies : q.replies = []) : q.Law busy := by
  unfold MeshPort.Law
  rw [MeshPort.placesUsed_empty hgathered, hgathered, hslots, hreplies, hbusy]
  exact ⟨List.nodup_nil, by decide, by decide, fun x hx => absurd hx List.not_mem_nil,
    fun x hx => absurd hx List.not_mem_nil⟩

/-! ### FIFOs (R138, R152) -/

/-- Both FIFOs within their bounds. -/
def State.FifosSound (s : State) : Prop := ∀ p, s.fifoSound p

theorem State.inProgress_iff (s : State) (p : Port) : s.inProgress p = true ↔ ∃ m, s.me.mesh = some m ∧ m.port = p := by
  unfold State.inProgress
  cases s.me.mesh <;> simp

theorem State.fifosSound_idle {s : State} {p : Port} (hmesh : s.me.mesh = none) (hown : (s.port p).fifo.length ≤ 1024)
    (hother : (s.port (portOther p)).fifo.length ≤ 1024) : s.FifosSound := by
  intro p'
  refine ⟨?_, fun h => ?_⟩
  · rcases eq_or_other p p' with rfl | rfl
    · exact hown
    · exact hother
  · obtain ⟨m, hm, -⟩ := (s.inProgress_iff p').mp h
    exact absurd (hmesh.symm.trans hm) (by simp)

theorem State.fifosSound_busy {s : State} {m : Mesh} (hmesh : s.me.mesh = some m)
    (hown : (s.port m.port).fifo.length ≤ 1021) (hother : (s.port (portOther m.port)).fifo.length ≤ 1024) :
    s.FifosSound := by
  intro p'
  rcases eq_or_other m.port p' with rfl | rfl
  · exact ⟨by omega, fun _ => hown⟩
  · refine ⟨hother, fun h => ?_⟩
    obtain ⟨m', hm', hport⟩ := (s.inProgress_iff _).mp h
    cases hmesh.symm.trans hm'
    exact absurd hport.symm (portOther_ne _)

theorem State.closeMesh_fifo {s : State} {m : Mesh} (hown : (s.port m.port).fifo.length ≤ 1021)
    (hother : (s.port (portOther m.port)).fifo.length ≤ 1024) (st : MeshStatus) : (s.closeMesh m st).FifosSound := by
  refine State.fifosSound_idle (p := m.port) (congrArg Engine.mesh (s.closeMesh_me m st)) ?_ ?_
  · rw [State.closeMesh_port]
    dsimp only
    rw [List.length_append, trailer_length]
    omega
  · rw [State.closeMesh_port_other]
    exact hother

theorem State.placeUnit_fifo {s : State} {m : Mesh} (hfits : s.fits m.port m.unit = true)
    (hother : (s.port (portOther m.port)).fifo.length ≤ 1024) : (s.placeUnit m).FifosSound := by
  rw [State.fits_iff] at hfits
  obtain ⟨hsame, ⟨m', hmesh, hport, -, hplaced⟩ | ⟨hmesh, st, hclosed⟩⟩ := s.placeUnit_port m
  · refine State.fifosSound_busy hmesh ?_ ?_
    · rw [hport, hplaced, List.length_append]
      exact hfits
    · rw [hport, hsame]
      exact hother
  · refine State.fifosSound_idle (p := m.port) hmesh ?_ ?_
    · rw [hclosed]
      dsimp only
      rw [List.length_append, List.length_append, trailer_length]
      omega
    · rw [hsame]
      exact hother

theorem State.release_fifo {s : State} {p : Port} (k : Fin 4) (hown : (s.port p).fifo.length ≤ 1024)
    (hother : (s.port (portOther p)).fifo.length ≤ 1024) : (s.release p k).FifosSound := by
  refine State.fifosSound_idle (p := p) (congrArg Engine.mesh (s.release_me p k)) ?_ ?_
  · rw [State.release_port]
    exact hown
  · rw [State.release_port_other]
    exact hother

theorem State.grantHead_fifo {s : State} {p : Port} (hown : (s.port p).fifo.length ≤ 1021)
    (hother : (s.port (portOther p)).fifo.length ≤ 1024) (r : Request) : (s.grantHead p r).FifosSound := by
  unfold State.grantHead
  dsimp only
  split
  · refine State.release_fifo _ ?_ ?_
    · rw [State.port_setPort]
      exact hown.trans (by decide)
    · rw [State.port_setPort_other]
      exact hother
  · split
    · rename_i hfits
      refine State.placeUnit_fifo (m := newMesh s p r _) hfits ?_
      show ((State.setPort _ p _).port (portOther p)).fifo.length ≤ 1024
      rw [State.port_setPort_other]
      exact hother
    · refine State.fifosSound_busy rfl ?_ ?_
      · show ((State.setPort _ p _).port p).fifo.length ≤ 1021
        rw [State.port_setPort]
        exact hown
      · show ((State.setPort _ p _).port (portOther p)).fifo.length ≤ 1024
        rw [State.port_setPort_other]
        exact hother

theorem State.stopMesh_fifo {s : State} (hs : s.FifosSound) (p : Port) : (s.stopMesh p).FifosSound := by
  unfold State.stopMesh
  split
  · split
    · exact State.release_fifo _ (hs _).1 (hs _).1
    · exact hs
  · exact hs

/-! ### The grant point (R145) -/

theorem State.offers_iff (s : State) (p : Port) :
    s.offers p = true ↔ ∃ r, (s.port p).head? = some r ∧ r.state = .ready ∧ (s.port p).fifo.length ≤ 1021 := by
  unfold State.offers
  cases (s.port p).head? with
  | none => simp
  | some r =>
    dsimp only
    rw [Bool.and_eq_true, beq_iff_eq, decide_eq_true_eq]
    simp [Config.fifoLimit]

/-- The port granted offers its head. -/
theorem State.grantPort_offers {s : State} {p : Port} (h : s.grantPort = some p) : s.offers p = true := by
  unfold State.grantPort at h
  split at h
  · cases h
  · split at h
    · rename_i h0 h1
      cases p
      · exact h0
      · exact h1
    · rename_i h0 h1
      cases h
      exact h0
    · rename_i h0 h1
      cases h
      exact h1
    · cases h

end Sys2Proof.Machine
end

section
/-! PROOFS. The ports under every command: O60, O56 and O51. -/

namespace Sys2Proof.Machine

/-! ### Every command keeps the slots and the reply queues (R122 to R133) -/

theorem Engine.slotOf_congr {e e' : Engine} (h : e'.mesh = e.mesh) (p : Port) : e'.slotOf p = e.slotOf p := by
  unfold Engine.slotOf
  rw [h]

theorem State.PortsLaw.congr {s t : State} (hs : s.PortsLaw) (hports : t.ports = s.ports)
    (hmesh : t.me.mesh = s.me.mesh) :
    t.PortsLaw := by
  intro p
  rw [State.port_of_ports hports, Engine.slotOf_congr hmesh]
  exact hs p

theorem State.portsLaw_of_reset {s : State} (hmesh : s.me.mesh = none)
    (hports : ∀ p, (s.port p).gathered = [] ∧ (s.port p).slots = [] ∧ (s.port p).replies = []) : s.PortsLaw := by
  intro p
  obtain ⟨hgathered, hslots, hreplies⟩ := hports p
  exact MeshPort.law_empty (Engine.slotOf_none hmesh p) hgathered hslots hreplies

theorem State.Answers.ports_eq {s t : State} (h : s.Answers t) :
    t.ports = s.ports ∧ t.me = s.me ∧ t.config = s.config := by
  obtain ⟨n, st, args, rfl⟩ := h
  exact ⟨rfl, rfl, rfl⟩

/-- A PORT n reset: its own port empty with the RESYNC, the other port as the stop of the mesh leaves it (R137). -/
theorem State.portReset_port (s : State) (p : Port) :
    (s.portReset p).port p = ((s.stopMesh p).port p).portReset s.time
      ∧ (s.portReset p).port (portOther p) = (s.stopMesh p).port (portOther p)
      ∧ (s.portReset p).me = (s.stopMesh p).me := by
  have htime : (s.stopMesh p).time = s.time := State.stopMesh_time s p
  unfold State.portReset
  refine ⟨?_, ?_, rfl⟩
  · show ((s.stopMesh p).setPort p _).port p = _
    rw [State.port_setPort, htime]
  · exact State.port_setPort_other _ _ _

theorem portResetBody_law {s : State} (hs : s.PortsLaw) : (portResetBody s).PortsLaw := by
  rcases portResetBody_cases s with h | ⟨p, args, -, he⟩
  · obtain ⟨hports, hme, -⟩ := h.ports_eq
    exact hs.congr hports (congrArg Engine.mesh hme)
  · obtain ⟨hown, hother, hme⟩ := s.portReset_port p
    rw [he]
    intro p'
    show ((s.portReset p).port p').Law ((s.portReset p).me.slotOf p')
    rw [hme]
    rcases eq_or_other p p' with rfl | rfl
    · rw [hown]
      exact MeshPort.law_empty (s.stopMesh_slotOf _) rfl rfl rfl
    · rw [hother]
      exact s.stopMesh_law hs p _

theorem exec_keeps_portsLaw {c : Instr} {s t : State} (h : exec c s = .next t) (hs : s.PortsLaw) : t.PortsLaw := by
  have hreset : c = .powerOn ∨ c = .pinReset → t.PortsLaw := fun hc => by
    rcases exec_reset_cases hc h with rfl | ⟨cause, rfl⟩ | ⟨hold, -, rfl⟩
    · exact hs
    · exact State.portsLaw_of_reset rfl fun p => by cases p <;> exact ⟨rfl, rfl, rfl⟩
    · exact State.portsLaw_of_reset rfl fun p => by cases p <;> exact ⟨rfl, rfl, rfl⟩
  have command {c : Instr} {body : State → State} (hbody : (body s).PortsLaw) : (s.runCommand c body).PortsLaw :=
    State.runCommand_keeps (P := State.PortsLaw) c hs hs hbody
  by_cases hmoves : movesPorts c = true
  · have hme : t.me = s.me := by
      cases c <;> first | exact Bool.noConfusion hmoves | exact exec_frame h (b := .me) rfl
    intro p
    rw [hme]
    exact (exec_moves hmoves h p).law (hs p)
  · cases c with
    | powerOn => exact hreset (.inl rfl)
    | pinReset => exact hreset (.inr rfl)
    | resetCore =>
      cases h
      exact command (State.portsLaw_of_reset rfl fun p => by cases p <;> exact ⟨rfl, rfl, rfl⟩)
    | runControl =>
      cases h
      refine command ?_
      rcases runControlBody_cases s with h | ⟨r, args, he⟩
      · obtain ⟨hports, hme, -⟩ := h.ports_eq
        exact hs.congr hports (congrArg Engine.mesh hme)
      · rw [he]
        exact hs.congr rfl rfl
    | portConfig =>
      cases h
      refine command ?_
      rcases portConfigBody_cases s with h | ⟨p, c, -, -, -, he⟩
      · obtain ⟨hports, hme, -⟩ := h.ports_eq
        exact hs.congr hports (congrArg Engine.mesh hme)
      · rw [he]
        intro p'
        show ((s.setPort p _).port p').Law (s.me.slotOf p')
        rcases eq_or_other p p' with rfl | rfl
        · rw [State.port_setPort]
          exact hs _
        · rw [State.port_setPort_other]
          exact hs _
    | portReset =>
      cases h
      exact command (portResetBody_law hs)
    | grant =>
      cases h
      split
      · rename_i p hp
        split
        · rename_i r hr
          obtain ⟨r', hr', hready, -⟩ := (s.offers_iff p).mp (State.grantPort_offers hp)
          cases hr.symm.trans hr'
          exact State.grantHead_law hs (State.grantPort_idle hp) hr hready
        · exact hs
      · exact hs
    | unitPlace =>
      cases h
      split
      · rename_i m hm
        obtain ⟨hown, hother⟩ := hs.busy hm
        split
        · exact State.placeUnit_law hown hother
        · exact hs
      · exact hs
    | stallExpiry =>
      cases h
      split
      · rename_i m hm
        obtain ⟨hown, hother⟩ := hs.busy hm
        split
        · exact State.closeMesh_law hown hother _
        · exact hs
      · exact hs
    | _ =>
      first
      | exact absurd rfl hmoves
      | exact hs.congr (exec_frame h (b := .ports) rfl : t.ports = s.ports)
          (congrArg Engine.mesh (exec_frame h (b := .me) rfl : t.me = s.me))

/-! ### Every command keeps the FIFOs (R138, R152) -/

theorem State.FifosSound.congr {s t : State} (hs : s.FifosSound) (hports : ∀ p, (t.port p).fifo = (s.port p).fifo)
    (hmesh : t.me.mesh = s.me.mesh) : t.FifosSound := by
  intro p
  have hbusy : t.inProgress p = s.inProgress p := by
    unfold State.inProgress
    rw [hmesh]
  unfold State.fifoSound
  rw [hports, hbusy]
  exact hs p

theorem State.fifosSound_of_reset {s : State} (hmesh : s.me.mesh = none) (hports : ∀ p, (s.port p).fifo.length ≤ 2) :
    s.FifosSound :=
  State.fifosSound_idle (p := .mp0) hmesh ((hports _).trans (by decide)) ((hports _).trans (by decide))

theorem portResetBody_fifo {s : State} (hs : s.FifosSound) : (portResetBody s).FifosSound := by
  rcases portResetBody_cases s with h | ⟨p, args, -, he⟩
  · obtain ⟨hports, hme, -⟩ := h.ports_eq
    exact hs.congr (fun p => congrArg MeshPort.fifo (State.port_of_ports hports p)) (congrArg Engine.mesh hme)
  · obtain ⟨hown, hother, hme⟩ := s.portReset_port p
    rw [he]
    intro p'
    have hbusy : ((s.portReset p).respond .ok args).inProgress p' = (s.stopMesh p).inProgress p' := by
      show (s.portReset p).inProgress p' = _
      unfold State.inProgress
      rw [hme]
    unfold State.fifoSound
    rw [hbusy]
    show ((s.portReset p).port p').fifo.length ≤ 1024 ∧ (_ → ((s.portReset p).port p').fifo.length ≤ 1021)
    rcases eq_or_other p p' with rfl | rfl
    · rw [hown]
      exact ⟨(by decide : 2 ≤ 1024), fun _ => (by decide : 2 ≤ 1021)⟩
    · rw [hother]
      exact s.stopMesh_fifo hs p _

theorem exec_keeps_fifos {c : Instr} {s t : State} (h : exec c s = .next t) (hs : s.FifosSound) : t.FifosSound := by
  have hreset : c = .powerOn ∨ c = .pinReset → t.FifosSound := fun hc => by
    rcases exec_reset_cases hc h with rfl | ⟨cause, rfl⟩ | ⟨hold, -, rfl⟩
    · exact hs
    · exact State.fifosSound_of_reset rfl fun p => by cases p <;> exact le_rfl
    · exact State.fifosSound_of_reset rfl fun p => by cases p <;> exact Nat.zero_le _
  have command {c : Instr} {body : State → State} (hbody : (body s).FifosSound) : (s.runCommand c body).FifosSound :=
    State.runCommand_keeps (P := State.FifosSound) c hs hs hbody
  by_cases hmoves : movesPorts c = true
  · have hme : t.me = s.me := by
      cases c <;> first | exact Bool.noConfusion hmoves | exact exec_frame h (b := .me) rfl
    intro p
    have hbusy : t.inProgress p = s.inProgress p := by
      unfold State.inProgress
      rw [hme]
    have hfifo := (exec_moves hmoves h p).fifo
    obtain ⟨hall, hmesh⟩ := hs p
    unfold State.fifoSound
    rw [hbusy]
    exact ⟨by omega, fun hp => by have := hmesh hp; omega⟩
  · cases c with
    | powerOn => exact hreset (.inl rfl)
    | pinReset => exact hreset (.inr rfl)
    | resetCore =>
      cases h
      exact command (State.fifosSound_of_reset rfl fun p => by cases p <;> exact le_rfl)
    | runControl =>
      cases h
      refine command ?_
      rcases runControlBody_cases s with h | ⟨r, args, he⟩
      · obtain ⟨hports, hme, -⟩ := h.ports_eq
        exact hs.congr (fun p => congrArg MeshPort.fifo (State.port_of_ports hports p)) (congrArg Engine.mesh hme)
      · rw [he]
        exact hs.congr (fun _ => rfl) rfl
    | portConfig =>
      cases h
      refine command ?_
      rcases portConfigBody_cases s with h | ⟨p, c, -, -, -, he⟩
      · obtain ⟨hports, hme, -⟩ := h.ports_eq
        exact hs.congr (fun p => congrArg MeshPort.fifo (State.port_of_ports hports p)) (congrArg Engine.mesh hme)
      · rw [he]
        refine hs.congr (fun p' => ?_) rfl
        show ((s.setPort p _).port p').fifo = _
        rcases eq_or_other p p' with rfl | rfl
        · rw [State.port_setPort]
        · rw [State.port_setPort_other]
    | portReset =>
      cases h
      exact command (portResetBody_fifo hs)
    | grant =>
      cases h
      split
      · rename_i p hp
        obtain ⟨-, -, -, hfifo⟩ := (s.offers_iff p).mp (State.grantPort_offers hp)
        split
        · exact State.grantHead_fifo hfifo (hs _).1 _
        · exact hs
      · exact hs
    | unitPlace =>
      cases h
      split
      · split
        · exact State.placeUnit_fifo ‹_› (hs _).1
        · exact hs
      · exact hs
    | stallExpiry =>
      cases h
      split
      · rename_i m hm
        split
        · exact State.closeMesh_fifo ((hs _).2 ((s.inProgress_iff _).mpr ⟨m, hm, rfl⟩)) (hs _).1 _
        · exact hs
      · exact hs
    | _ =>
      first
      | exact absurd rfl hmoves
      | exact hs.congr (fun p => congrArg MeshPort.fifo
            (State.port_of_ports (exec_frame h (b := .ports) rfl : t.ports = s.ports) p))
          (congrArg Engine.mesh (exec_frame h (b := .me) rfl : t.me = s.me))

/-- Settles O60: a row outside the engine moves a port by moves that keep its law; the engine's commands, the resets
and PORT_CONFIG keep it one by one. -/
theorem portsStaySound : Obligations.PortsStaySound := by
  refine ⟨fun s t h h0 h1 => ?_, fun s t h h0 h1 => ?_⟩
  · have hs : s.PortsLaw := fun p => (s.portSound_iff p).mp (by cases p <;> assumption)
    have ht : t.PortsLaw := step_keeps (P := State.PortsLaw) (fun _ _ h => h) (fun _ _ _ => exec_keeps_portsLaw)
      (fun s hs => hs.congr (s.tick_same (b := .ports) Block.noConfusion)
        (congrArg Engine.mesh (s.tick_same (b := .me) Block.noConfusion : s.tick.me = s.me))) h hs
    exact ⟨(t.portSound_iff _).mpr (ht _), (t.portSound_iff _).mpr (ht _)⟩
  · have hs : s.FifosSound := fun p => by cases p <;> assumption
    have ht : t.FifosSound := step_keeps (P := State.FifosSound) (fun _ _ h => h) (fun _ _ _ => exec_keeps_fifos)
      (fun s hs => hs.congr (fun p => congrArg MeshPort.fifo
          (State.port_of_ports (s.tick_same (b := .ports) Block.noConfusion : s.tick.ports = s.ports) p))
        (congrArg Engine.mesh (s.tick_same (b := .me) Block.noConfusion : s.tick.me = s.me))) h hs
    exact ⟨ht _, ht _⟩

end Sys2Proof.Machine
end

section
/-! PROOFS. Ports stay configured for the requests they hold (R120, R121, R124, R136, R176): O56; and a command of one
port leaves the other alone (R98, R100, R121, R137): O51. -/

namespace Sys2Proof.Machine

/-! ### The engine's commands bring no request to a port -/

/-- The port has the same configuration, and every request it holds comes from one it held. -/
structure MeshPort.Serves (q q' : MeshPort) : Prop where
  config : q'.config = q.config
  slots : ∀ r' ∈ q'.slots, ∃ r ∈ q.slots, r'.fields = r.fields

theorem MeshPort.Serves.refl (q : MeshPort) : q.Serves q := ⟨rfl, fun r hr => ⟨r, hr, rfl⟩⟩

theorem MeshPort.Serves.trans {q q' q'' : MeshPort} (h : q.Serves q') (h' : q'.Serves q'') : q.Serves q'' := by
  refine ⟨h'.config.trans h.config, fun r'' hr'' => ?_⟩
  obtain ⟨r', hr', he'⟩ := h'.slots r'' hr''
  obtain ⟨r, hr, he⟩ := h.slots r' hr'
  exact ⟨r, hr, he'.trans he⟩

theorem MeshPort.serves_free (q : MeshPort) (k : Fin 4) (ws : List Word) : q.Serves { q.free k with fifo := ws } :=
  ⟨rfl, fun r hr => ⟨r, List.mem_of_mem_filter hr, rfl⟩⟩

theorem State.serves_of_port {s t : State} {p : Port} (hown : (s.port p).Serves (t.port p))
    (hother : t.port (portOther p) = s.port (portOther p)) (p' : Port) : (s.port p').Serves (t.port p') := by
  rcases eq_or_other p p' with rfl | rfl
  · exact hown
  · rw [hother]
    exact .refl _

theorem State.release_serves (s : State) (p : Port) (k : Fin 4) (p' : Port) :
    (s.port p').Serves ((s.release p k).port p') :=
  State.serves_of_port (by rw [State.release_port]; exact MeshPort.serves_free _ k _) (s.release_port_other p k) p'

theorem State.closeMesh_serves (s : State) (m : Mesh) (st : MeshStatus) (p : Port) :
    (s.port p).Serves ((s.closeMesh m st).port p) :=
  State.serves_of_port (by rw [State.closeMesh_port]; exact MeshPort.serves_free _ _ _) (s.closeMesh_port_other m st) p

theorem State.placeUnit_serves (s : State) (m : Mesh) (p : Port) : (s.port p).Serves ((s.placeUnit m).port p) := by
  obtain ⟨hother, ⟨-, -, -, -, hplaced⟩ | ⟨-, st, hclosed⟩⟩ := s.placeUnit_port m
  · refine State.serves_of_port ?_ hother p
    rw [hplaced]
    exact ⟨rfl, fun r hr => ⟨r, hr, rfl⟩⟩
  · refine State.serves_of_port ?_ hother p
    rw [hclosed]
    exact MeshPort.serves_free _ _ _

theorem State.setPort_serves (s : State) {p : Port} {q : MeshPort} (h : (s.port p).Serves q) (p' : Port) :
    (s.port p').Serves ((s.setPort p q).port p') :=
  State.serves_of_port (by rwa [State.port_setPort]) (State.port_setPort_other s p q) p'

theorem State.grantHead_serves (s : State) (p : Port) (r : Request) (p' : Port) :
    (s.port p').Serves ((s.grantHead p r).port p') := by
  have hrefused : ∀ code g, (s.port p).Serves ((s.port p).refuse r code g) := fun code g =>
    ⟨rfl, fun x hx => ⟨x, List.mem_of_mem_filter hx, rfl⟩⟩
  have hserved : (s.port p).Serves ((s.port p).modify r.slot fun r => { r with state := .inEngine }) := by
    refine ⟨rfl, fun x' hx' => ?_⟩
    obtain ⟨x, hx, rfl⟩ := List.mem_map.mp hx'
    exact ⟨x, hx, by split <;> rfl⟩
  unfold State.grantHead
  dsimp only
  split
  · refine .trans ?_ (State.release_serves _ _ _ _)
    exact State.setPort_serves s (hrefused _ _) p'
  · split
    · refine .trans ?_ (State.placeUnit_serves _ _ _)
      exact State.setPort_serves s hserved p'
    · exact State.setPort_serves s hserved p'

theorem State.stopMesh_serves (s : State) (p p' : Port) : (s.port p').Serves ((s.stopMesh p).port p') := by
  unfold State.stopMesh
  split
  · split
    · exact s.release_serves _ _ _
    · exact .refl _
  · exact .refl _

theorem MeshPort.Serves.configured {c : ConfigSet} {q q' : MeshPort} (h : q.Serves q') (hq : q.Configured c) :
    q'.Configured c :=
  hq.ofSlots h.config h.slots

/-! ### The commands that configure -/

/-- A port after a reset of the whole part (R120). -/
theorem MeshPort.reset_configured (ws : List Word) (c : ConfigSet) : (MeshPort.reset ws).Configured c :=
  ⟨(by decide : 1 ≤ 40), (by decide : 1 ≤ 10), fun _ => rfl, fun h => Bool.noConfusion h⟩

/-- A port after its own reset (R137): no request, and a mode in which the template has no use. -/
theorem MeshPort.portReset_configured {c : ConfigSet} {q : MeshPort} (hq : q.Configured c) (now : Word) :
    (q.portReset now).Configured c := by
  obtain ⟨hwait, hstall, -, henabled⟩ := hq
  refine ⟨hwait, hstall, fun _ => rfl, fun hon => ?_⟩
  obtain ⟨hw, hh, -⟩ := henabled hon
  exact ⟨hw, hh, fun hmode => absurd rfl hmode, fun r hr => absurd hr List.not_mem_nil⟩

/-- What PORT_CONFIG accepts suits the requests that the port holds (R136). -/
theorem State.Configurable.configured {s : State} {p : Port} {c : PortConfig} (h : s.Configurable p c)
    (hwait : 1 ≤ c.waitLimit.toNat) (hstall : 1 ≤ c.stallLimit.toNat) (hq : (s.port p).Configured s.config) :
    ({ s.port p with config := c } : MeshPort).Configured s.config := by
  obtain ⟨hset, hactive, htemplate⟩ := h
  obtain ⟨-, -, hdisabled, henabled⟩ := hq
  refine ⟨hwait, hstall, fun hoff => ?_, fun hon => ?_⟩
  · by_contra hne
    cases hwas : (s.port p).config.enabled with
    | false => exact hne (hdisabled hwas)
    | true =>
      have hsame := hactive hwas hne
      simp only [PortConfig.sameButTiming, beq_iff_eq] at hsame
      have hon : c.enabled = (s.port p).config.enabled := by rw [hsame]
      exact absurd (hoff.symm.trans (hon.trans hwas)) Bool.noConfusion
  · obtain ⟨hw, hh⟩ := hset hon
    refine ⟨hw, hh, fun hmode => ?_, fun r hr => ?_⟩
    · exact Bool.and_eq_true_iff.mp (htemplate hon hmode)
    · cases hwas : (s.port p).config.enabled with
      | false =>
        have hempty := hdisabled hwas
        exact absurd (hempty ▸ hr : r ∈ []) List.not_mem_nil
      | true =>
        obtain ⟨-, -, -, hfits⟩ := henabled hwas
        exact hfits r hr

/-- A port whose array stays keeps its law. -/
theorem MeshPort.Configured.sameArray {c c' : ConfigSet} {q : MeshPort} (hq : q.Configured c)
    (hw : c'.width = c.width) (hh : c'.height = c.height) : q.Configured c' := by
  unfold MeshPort.Configured RequestFields.Fits windowFits at hq ⊢
  rwa [hw, hh]

/-- A disabled port asks nothing of the configuration set. -/
theorem MeshPort.Configured.ofDisabled {c c' : ConfigSet} {q : MeshPort} (hq : q.Configured c)
    (hoff : q.config.enabled = false) : q.Configured c' := by
  obtain ⟨hwait, hstall, hdisabled, -⟩ := hq
  exact ⟨hwait, hstall, hdisabled, fun hon => absurd (hoff.symm.trans hon) Bool.noConfusion⟩

theorem ConfigSet.apply_array {c c' : ConfigSet} {e : ConfigEntry} (h : c.changesArray e = false)
    (hw : c'.width = c.width) (hh : c'.height = c.height) :
    (c'.apply e).width = c.width ∧ (c'.apply e).height = c.height := by
  unfold ConfigSet.changesArray at h
  unfold ConfigSet.apply
  dsimp only
  split
  · rename_i hp
    simp only [hp, beq_self_eq_true, Bool.true_and, Bool.or_eq_false_iff, bne_eq_false_iff_eq] at h
    rw [h.1]
    exact ⟨BitVec.ofNat_toNat .. |>.trans (BitVec.setWidth_eq _), hh⟩
  · rename_i hp
    simp only [hp, beq_self_eq_true, Bool.true_and, Bool.or_eq_false_iff, bne_eq_false_iff_eq] at h
    rw [h.2]
    exact ⟨hw, BitVec.ofNat_toNat .. |>.trans (BitVec.setWidth_eq _)⟩
  all_goals exact ⟨hw, hh⟩

/-- Entries that change neither W nor H leave the array (R176). -/
theorem ConfigSet.foldl_apply_array {c : ConfigSet} {es : List ConfigEntry} (h : es.any c.changesArray = false)
    {c' : ConfigSet} (hw : c'.width = c.width) (hh : c'.height = c.height) :
    (es.foldl ConfigSet.apply c').width = c.width ∧ (es.foldl ConfigSet.apply c').height = c.height := by
  induction es generalizing c' with
  | nil => exact ⟨hw, hh⟩
  | cons e es ih =>
    rw [List.any_cons, Bool.or_eq_false_iff] at h
    obtain ⟨hw', hh'⟩ := ConfigSet.apply_array h.1 hw hh
    exact ih h.2 hw' hh'

theorem State.enabled_of_anyEnabled {s : State} (h : s.anyEnabled = false) (p : Port) :
    (s.port p).config.enabled = false := by
  obtain ⟨h0, h1⟩ := Bool.or_eq_false_iff.mp h
  cases p
  · exact h0
  · exact h1

/-! ### Every command -/

/-- The law of both ports' configurations. -/
def State.PortsConfigured (s : State) : Prop := ∀ p, (s.port p).Configured s.config

theorem State.PortsConfigured.congr {s t : State} (hs : s.PortsConfigured) (hports : t.ports = s.ports)
    (hconfig : t.config = s.config) : t.PortsConfigured := by
  intro p
  rw [State.port_of_ports hports, hconfig]
  exact hs p

theorem State.PortsConfigured.answers {s t : State} (hs : s.PortsConfigured) (h : s.Answers t) : t.PortsConfigured := by
  obtain ⟨hports, -, hconfig⟩ := h.ports_eq
  exact hs.congr hports hconfig

theorem setConfigBody_configured {s : State} (hs : s.PortsConfigured) : (setConfigBody s).PortsConfigured := by
  rcases setConfigBody_cases s with h | ⟨-, harray, args, he⟩
  · exact hs.answers h
  · rw [he]
    intro p
    rcases Bool.and_eq_false_iff.mp harray with hoff | hsame
    · exact (hs p).ofDisabled (State.enabled_of_anyEnabled hoff p)
    · obtain ⟨hw, hh⟩ := ConfigSet.foldl_apply_array hsame rfl rfl
      exact (hs p).sameArray hw hh

theorem exec_keeps_configured {c : Instr} {s t : State} (h : exec c s = .next t) (hs : s.PortsConfigured) :
    t.PortsConfigured := by
  have hreset : c = .powerOn ∨ c = .pinReset → t.PortsConfigured := fun hc => by
    rcases exec_reset_cases hc h with rfl | ⟨cause, rfl⟩ | ⟨hold, -, rfl⟩
    · exact hs
    · exact fun p => by cases p <;> exact MeshPort.reset_configured _ _
    · exact fun p => by cases p <;> exact MeshPort.reset_configured _ _
  have command {c : Instr} {body : State → State} (hbody : (body s).PortsConfigured) :
      (s.runCommand c body).PortsConfigured :=
    State.runCommand_keeps (P := State.PortsConfigured) c hs hs hbody
  have served {u : State} (hconfig : u.config = s.config) (hports : ∀ p, (s.port p).Serves (u.port p)) :
      u.PortsConfigured := fun p => by
    rw [hconfig]
    exact (hports p).configured (hs p)
  by_cases hmoves : movesPorts c = true
  · have hconfig : t.config = s.config := by
      cases c <;> first | exact Bool.noConfusion hmoves | exact exec_frame h (b := .config) rfl
    intro p
    rw [hconfig]
    exact (exec_moves hmoves h p).configured (hs p)
  · cases c with
    | powerOn => exact hreset (.inl rfl)
    | pinReset => exact hreset (.inr rfl)
    | resetCore =>
      cases h
      exact command fun p => by cases p <;> exact MeshPort.reset_configured _ _
    | setConfig =>
      cases h
      exact command (setConfigBody_configured hs)
    | portConfig =>
      cases h
      refine command ?_
      rcases portConfigBody_cases s with h | ⟨p, c, hwait, hstall, hc, he⟩
      · exact hs.answers h
      · rw [he]
        intro p'
        show ((s.setPort p _).port p').Configured s.config
        rcases eq_or_other p p' with rfl | rfl
        · rw [State.port_setPort]
          exact hc.configured hwait hstall (hs _)
        · rw [State.port_setPort_other]
          exact hs _
    | portReset =>
      cases h
      refine command ?_
      rcases portResetBody_cases s with h | ⟨p, args, -, he⟩
      · exact hs.answers h
      · obtain ⟨hown, hother, -⟩ := s.portReset_port p
        have hstopped (p' : Port) : ((s.stopMesh p).port p').Configured s.config :=
          (s.stopMesh_serves p p').configured (hs p')
        have hconfig : (s.portReset p).config = s.config := State.portReset_config s p
        rw [he]
        intro p'
        show ((s.portReset p).port p').Configured (s.portReset p).config
        rw [hconfig]
        rcases eq_or_other p p' with rfl | rfl
        · rw [hown]
          exact MeshPort.portReset_configured (hstopped _) _
        · rw [hother]
          exact hstopped _
    | grant =>
      cases h
      split
      · split
        · exact served (State.grantHead_config ..) (s.grantHead_serves _ _)
        · exact hs
      · exact hs
    | unitPlace =>
      cases h
      split
      · split
        · exact served (State.placeUnit_config ..) (s.placeUnit_serves _)
        · exact hs
      · exact hs
    | stallExpiry =>
      cases h
      split
      · split
        · exact served (State.closeMesh_config ..) (s.closeMesh_serves _ _)
        · exact hs
      · exact hs
    | _ =>
      first
      | exact absurd rfl hmoves
      | exact hs.congr (exec_frame h (b := .ports) rfl) (exec_frame h (b := .config) rfl)

/-- Settles O56: requests enter a port only through its checks or from its template, and what would unsettle them is
refused. -/
theorem portsStayConfiguredForTheirRequests : Obligations.PortsStayConfiguredForTheirRequests := by
  intro s t h h0 h1
  have hs : s.PortsConfigured := fun p => (s.portConfigured_iff p).mp (by cases p <;> assumption)
  have ht : t.PortsConfigured := step_keeps (P := State.PortsConfigured) (fun _ _ h => h)
    (fun _ _ _ => exec_keeps_configured)
    (fun s hs => hs.congr (s.tick_same (b := .ports) Block.noConfusion) (s.tick_same (b := .config) Block.noConfusion))
    h hs
  exact ⟨(t.portConfigured_iff _).mpr (ht _), (t.portConfigured_iff _).mpr (ht _)⟩

/-! ### The other port -/

theorem State.stopMesh_port_other (s : State) (p : Port) :
    (s.stopMesh p).port (portOther p) = s.port (portOther p) := by
  unfold State.stopMesh
  split
  · split
    · exact s.release_port_other _ _
    · rfl
  · rfl

theorem portResetBody_other {s : State} {p : Port} (hp : s.arg 4 1 = portCode p) :
    (portResetBody s).port (portOther p) = s.port (portOther p)
      ∧ (portResetBody s).tsu.get (portOther p) = s.tsu.get (portOther p) := by
  rcases portResetBody_cases s with ⟨n, st, args, he⟩ | ⟨p', args, hp', he⟩ <;> rw [he]
  · exact ⟨rfl, rfl⟩
  · cases portCode_inj.mp (hp.symm.trans hp')
    obtain ⟨-, hother, -⟩ := s.portReset_port p
    refine ⟨hother.trans (s.stopMesh_port_other p), ?_⟩
    show (((s.stopMesh p).tsu).set p StrobeUnit.reset).get (portOther p) = _
    rw [PerPort.get_set_other, State.stopMesh_tsu]

/-- Settles O51: a row of one port writes that port and its strobe unit; a PORT_RESET names its port by its argument. -/
theorem aPortLeavesTheOtherAlone : Obligations.APortLeavesTheOtherAlone := by
  intro c p s t hc h
  have row (hc : rowPort c = some p) : t.port (portOther p) = s.port (portOther p)
      ∧ t.tsu.get (portOther p) = s.tsu.get (portOther p) ∧ t.llr = s.llr ∧ t.config = s.config := by
    obtain ⟨hport, htsu⟩ := exec_rowPort_other hc h
    refine ⟨hport, htsu, ?_, ?_⟩
    · cases c <;> first | exact exec_frame h (b := .llr) rfl | cases hc
    · cases c <;> first | exact exec_frame h (b := .config) rfl | cases hc
  rcases hc with rfl | rfl | ⟨w, rfl⟩ | ⟨w, rfl⟩ | ⟨k, rfl⟩ | rfl | rfl | ⟨rfl, hp⟩
  · exact row rfl
  · exact row rfl
  · exact row rfl
  · exact row rfl
  · exact row rfl
  · exact row rfl
  · exact row rfl
  · have hllr : t.llr = s.llr := exec_frame h (b := .llr) rfl
    have hconfig : t.config = s.config := exec_frame h (b := .config) rfl
    cases h
    obtain ⟨hport, htsu⟩ := State.runCommand_keeps (s := s)
      (P := fun u => u.port (portOther p) = s.port (portOther p) ∧ u.tsu.get (portOther p) = s.tsu.get (portOther p))
      .portReset (body := portResetBody) ⟨rfl, rfl⟩ ⟨rfl, rfl⟩ (portResetBody_other hp)
    exact ⟨hport, htsu, hllr, hconfig⟩

end Sys2Proof.Machine
end

section
/-! PROOFS. A value on a node list (R8, R9): O3; and the evaluation of a node stage by stage (R12 to R19): O5. -/

namespace Sys2Proof.Machine

/-! ### The interval of a value (R8) -/

/-- The last index that passes a test, where index 0 does: the greatest one. -/
theorem lastPassing_spec {p : Nat → Bool} (h0 : p 0 = true) (n : Nat) :
    let m := ((List.range (n + 1)).filter p).getLastD 0
    m ≤ n ∧ p m = true ∧ ∀ i ≤ n, m < i → p i = false := by
  induction n with
  | zero =>
    simp only [List.range_succ, List.range_zero, List.nil_append, List.filter_cons, h0, if_true, List.filter_nil]
    exact ⟨le_refl _, h0, fun i hi hlt => absurd hlt (by simpa using hi)⟩
  | succ n ih =>
    obtain ⟨hle, hpass, hgreatest⟩ := ih
    simp only [List.range_succ (n := n + 1), List.filter_append, List.filter_cons, List.filter_nil]
    by_cases hn : p (n + 1) = true
    · rw [if_pos hn, List.getLastD_concat]
      exact ⟨le_refl _, hn, fun i hi hlt => by omega⟩
    · rw [if_neg hn, List.append_nil]
      refine ⟨Nat.le_succ_of_le hle, hpass, fun i hi hlt => ?_⟩
      rcases Nat.le_or_eq_of_le_succ hi with hi | rfl
      · exact hgreatest i hi hlt
      · simpa using hn

theorem headD_eq_getD (nodes : List Nat) : nodes.headD 0 = nodes.getD 0 0 := by
  cases nodes <;> rfl

theorem getLastD_eq_getD (nodes : List Nat) : nodes.getLastD 0 = nodes.getD (nodes.length - 1) 0 := by
  rw [List.getLastD_eq_getLast?, List.getLast?_eq_getElem?, List.getD_eq_getElem?_getD]

/-- The nodes rise with their index. -/
theorem getD_lt_getD {nodes : List Nat} (h : nodes.Pairwise (· < ·)) {i j : Nat} (hij : i < j)
    (hj : j < nodes.length) : nodes.getD i 0 < nodes.getD j 0 := by
  rw [List.getD_eq_getElem _ _ (hij.trans hj), List.getD_eq_getElem _ _ hj]
  exact List.pairwise_iff_getElem.mp h i j _ _ hij

theorem getD_le_getD {nodes : List Nat} (h : nodes.Pairwise (· < ·)) {i j : Nat} (hij : i ≤ j)
    (hj : j < nodes.length) : nodes.getD i 0 ≤ nodes.getD j 0 := by
  rcases Nat.lt_or_eq_of_le hij with hlt | rfl
  · exact (getD_lt_getD h hlt hj).le
  · exact le_refl _

theorem headD_le_getLastD {nodes : List Nat} (h : nodes.Pairwise (· < ·)) (hne : nodes ≠ []) :
    nodes.headD 0 ≤ nodes.getLastD 0 := by
  have hpos := List.length_pos_of_ne_nil hne
  rw [headD_eq_getD, getLastD_eq_getD]
  exact getD_le_getD h (Nat.zero_le _) (by omega)

/-- The interval of a value within the list's range: its two nodes hold the value, which reaches the upper one only at
the last node. -/
theorem intervalIndex_spec {nodes : List Nat} (h : nodes.Pairwise (· < ·)) (hlen : 2 ≤ nodes.length) {x : Nat}
    (hlo : nodes.getD 0 0 ≤ x) (hhi : x ≤ nodes.getD (nodes.length - 1) 0) :
    intervalIndex nodes x + 1 < nodes.length
      ∧ nodes.getD (intervalIndex nodes x) 0 ≤ x ∧ x ≤ nodes.getD (intervalIndex nodes x + 1) 0
      ∧ (x ≠ nodes.getD (nodes.length - 1) 0 → x < nodes.getD (intervalIndex nodes x + 1) 0) := by
  obtain ⟨n, hn⟩ : ∃ n, nodes.length = n + 2 := ⟨nodes.length - 2, by omega⟩
  have hlast := lastPassing_spec (p := fun i => decide (nodes.getD i 0 ≤ x)) (by simpa using hlo) (n + 1)
  simp only [intervalIndex, hn] at hlast hhi ⊢
  generalize ((List.range (n + 2)).filter fun i => decide (nodes.getD i 0 ≤ x)).getLastD 0 = m at hlast
  obtain ⟨hle, hpass, hgreatest⟩ := hlast
  simp only [decide_eq_true_eq, decide_eq_false_iff_not, Nat.not_le] at hpass hgreatest
  rcases Nat.lt_or_eq_of_le hle with hlt | rfl
  · rw [show min (n + 2 - 2) m = m by omega]
    have hupper := hgreatest (m + 1) (by omega) (by omega)
    exact ⟨by omega, hpass, hupper.le, fun _ => hupper⟩
  · rw [show min (n + 2 - 2) (n + 1) = n by omega]
    exact ⟨by omega, (getD_le_getD h (Nat.le_succ n) (by omega)).trans hpass, hhi,
      fun hne => lt_of_le_of_ne hhi hne⟩

/-- A value on a list of two nodes or more (R8). -/
theorem locate_of_two_le {nodes : List Nat} (h : 2 ≤ nodes.length) (v : Nat) :
    locate nodes v =
      let x := clampOnto nodes v
      let a := intervalIndex nodes x
      ⟨a, a + 1, (x - nodes.getD a 0) * 4096 / (nodes.getD (a + 1) 0 - nodes.getD a 0), x != v⟩ :=
  if_neg (by omega)

theorem locate_of_single {nodes : List Nat} (h : nodes.length = 1) (v : Nat) :
    locate nodes v = ⟨0, 0, 0, clampOnto nodes v != v⟩ :=
  if_pos (by omega)

theorem locate_clamped (nodes : List Nat) (v : Nat) : (locate nodes v).clamped = (clampOnto nodes v != v) := by
  unfold locate
  dsimp only
  split <;> rfl

/-- Settles O3: the interval index is the greatest index whose node is not above the value, held below the last one. -/
theorem valueIsLocatedInItsInterval : Obligations.ValueIsLocatedInItsInterval := by
  intro nodes v hne hrising first last x l
  have hrange : first ≤ last := headD_le_getLastD hrising hne
  have hx : clampOnto nodes v = x := rfl
  refine ⟨?_, fun hlen => ?_, fun hlen => ?_⟩
  · rw [show l.clamped = (x != v) from locate_clamped nodes v, bne_iff_ne]
    omega
  · rw [show l = _ from locate_of_single hlen v]
    exact ⟨rfl, rfl, rfl⟩
  · have hfirst : first = nodes.getD 0 0 := headD_eq_getD nodes
    have hlast : last = nodes.getD (nodes.length - 1) 0 := getLastD_eq_getD nodes
    obtain ⟨hnext, hlower, hupper, hstrict⟩ :=
      intervalIndex_spec hrising hlen (x := x) (by omega) (by omega)
    rw [← hlast] at hstrict
    have hgap := getD_lt_getD hrising (Nat.lt_succ_self (intervalIndex nodes x)) hnext
    rw [show l = _ from locate_of_two_le hlen v, hx]
    refine ⟨rfl, hnext, hlower, hupper, hstrict, rfl, ?_⟩
    exact Nat.div_le_of_le_mul (Nat.mul_le_mul_right _ (by omega))

/-! ### Rounding and clamping (R1, R13, R18) -/

theorem roundAt_eq_floor (n : Nat) (v : Int) : roundAt n v = ⌊(v : ℚ) / 2 ^ n + 1 / 2⌋ := by
  rw [roundAt, ← floor_intCast_div _ (show (0 : Int) ≤ 2 ^ (n + 1) by positivity)]
  congr 1
  push_cast
  rw [pow_succ]
  field_simp

/-- A scale of one, 2^20, rounds away without a change (R17). -/
theorem roundAt_mul_one (f : Int) : roundAt 20 (f * 2 ^ 20) = f := by
  unfold roundAt
  omega

@[simp] theorem roundAt_zero (n : Nat) : roundAt n 0 = 0 := by
  unfold roundAt
  rw [mul_zero, zero_add]
  exact Int.ediv_eq_zero_of_lt (by positivity) (pow_lt_pow_right₀ (by decide) (Nat.lt_succ_self n))

theorem clampQ_value (v : Int) : (clampQ v).value = max (-2147483648) (min 2147483647 v) :=
  clampInt_eq (by decide) v

theorem clampQ_marked_iff (v : Int) :
    (clampQ v).marked = true ↔ v ≠ max (-2147483648) (min 2147483647 v) := by
  rw [← clampQ_value]
  exact clampMark_marked _ _ _

theorem clampDisp_value (v : Int) : (clampDisp v).value = max (-32768) (min 32767 v) :=
  clampInt_eq (by decide) v

theorem clampDisp_marked_iff (v : Int) : (clampDisp v).marked = true ↔ v ≠ max (-32768) (min 32767 v) := by
  rw [← clampDisp_value]
  exact clampMark_marked _ _ _

/-! ### A node's word (R194) -/

theorem nodeWord_halves {dx dy : Int} (hx : -32768 ≤ dx ∧ dx ≤ 32767) (hy : -32768 ≤ dy ∧ dy ≤ 32767) :
    ((nodeWord dx dy).extractLsb' 16 16).toInt = dx ∧ ((nodeWord dx dy).extractLsb' 0 16).toInt = dy := by
  obtain ⟨hx0, hx1⟩ := hx
  obtain ⟨hy0, hy1⟩ := hy
  rw [nodeWord, BitVec.extractLsb'_append_eq_left, BitVec.extractLsb'_append_eq_right]
  exact ⟨BitVec.toInt_ofInt_eq_self (by decide) (by simpa using hx0) (by simpa using Int.lt_add_one_of_le hx1),
    BitVec.toInt_ofInt_eq_self (by decide) (by simpa using hy0) (by simpa using Int.lt_add_one_of_le hy1)⟩

/-! ### The stages of a node (R13 to R19) -/

/-- The green factor: three Horner stages, each clamped. -/
theorem greenFactor_value (k1 k2 k3 r : Int) :
    (greenFactor k1 k2 k3 r).value
      = (clampQ (2 ^ 20 + roundAt 30 ((clampQ (k1 + roundAt 30 ((clampQ (k2 + roundAt 30 (k3 * r))).value * r))).value
          * r))).value := rfl

theorem greenFactor_marked (k1 k2 k3 r : Int) :
    (greenFactor k1 k2 k3 r).marked = true ↔
      let g2 := clampQ (k2 + roundAt 30 (k3 * r))
      let g3 := clampQ (k1 + roundAt 30 (g2.value * r))
      g2.marked = true ∨ g3.marked = true ∨ (clampQ (2 ^ 20 + roundAt 30 (g3.value * r))).marked = true := by
  simp [greenFactor, horner, or_assoc]

/-- The words and the mark of a node from the stages it goes through. -/
theorem evalNode_words (rgb : Bool) (rn : Int) (c : RowCoeffs) (s dx dy : Int) :
    (evalNode rgb rn c s dx dy).1 =
      let r := (rho dx dy rn).value
      let g := (greenFactor c.k1 c.k2 c.k3 r).value
      let out (f : Int) : Word := (channelWord dx dy f s).1
      if rgb then [out g, out (channelFactor g c.aR0 c.aR1 r).value, out (channelFactor g c.aB0 c.aB1 r).value]
      else [out g] := by
  cases rgb <;> rfl

theorem evalNode_marked_iff (rgb : Bool) (rn : Int) (c : RowCoeffs) (s dx dy : Int) :
    (evalNode rgb rn c s dx dy).2 = true ↔
      let r := (rho dx dy rn).value
      let g := greenFactor c.k1 c.k2 c.k3 r
      let fr := channelFactor g.value c.aR0 c.aR1 r
      let fb := channelFactor g.value c.aB0 c.aB1 r
      let acts (f : Int) : Prop := (channelWord dx dy f s).2 = true
      (rho dx dy rn).marked = true ∨ g.marked = true ∨ acts g.value
        ∨ (rgb = true ∧ (fr.marked = true ∨ acts fr.value ∨ fb.marked = true ∨ acts fb.value)) := by
  cases rgb <;> simp [evalNode, or_assoc]

theorem channelWord_marked_iff (dx dy f s : Int) :
    (channelWord dx dy f s).2 = true ↔
      (effective f s).marked = true ∨ (displacement dx (effective f s).value).marked = true
        ∨ (displacement dy (effective f s).value).marked = true := by
  simp [channelWord, or_assoc]

/-- A node at the centre delivers zeros, whatever its factor. -/
theorem channelWord_centre (f s : Int) : (channelWord 0 0 f s).1 = 0 := by
  have hzero : (displacement 0 (effective f s).value).value = 0 := by
    rw [displacement, zero_mul, roundAt_zero]
    rfl
  show nodeWord _ _ = 0
  rw [hzero]
  rfl

/-- Settles O5: each stage's value is its clamp, and its mark says that the clamp acted. -/
theorem nodeIsEvaluatedStageByStage : Obligations.NodeIsEvaluatedStageByStage := by
  refine ⟨roundAt_eq_floor, fun dx dy hx0 hx1 hy0 hy1 => nodeWord_halves ⟨hx0, hx1⟩ ⟨hy0, hy1⟩, ?_⟩
  intro rgb rn c s dx dy q d r g2 g3 g4 fg fr fb e disp out acts
  have hq : ∀ v, (clampQ v).value = q v := clampQ_value
  have hd : ∀ v, (clampDisp v).value = d v := clampDisp_value
  have hg : (greenFactor c.k1 c.k2 c.k3 r).value = fg := by
    simp only [greenFactor_value, hq]
    rfl
  have hout : ∀ f, (channelWord dx dy f s).1 = out f := fun f => by
    simp only [channelWord, displacement, effective, hq, hd]
    rfl
  have hacts : ∀ f, (channelWord dx dy f s).2 = true ↔ acts f := fun f => by
    simp only [channelWord_marked_iff, displacement, effective, hq, clampQ_marked_iff, clampDisp_marked_iff]
    rfl
  refine ⟨?_, ?_, fun hs f => ?_, fun hx hy w hw => ?_⟩
  · simp only [evalNode_words, hout, channelFactor, hq]
    rw [show (greenFactor c.k1 c.k2 c.k3 (rho dx dy rn).value).value = fg from hg]
  · simp only [evalNode_marked_iff, hacts, channelFactor, hq, clampQ_marked_iff, greenFactor_marked]
    rw [show (greenFactor c.k1 c.k2 c.k3 (rho dx dy rn).value).value = fg from hg]
    simp only [or_assoc]
    rfl
  · exact (congrArg (fun x => roundAt 20 (f * x)) hs).trans (roundAt_mul_one f)
  · subst hx hy
    rw [evalNode_words] at hw
    split at hw <;> simp_all [channelWord_centre]

end Sys2Proof.Machine
end

section
/-! PROOFS. An instant between two entries (R114): O6; and the tests that resolve an instant (R110 to R116): O7. -/

namespace Sys2Proof.Machine

/-! ### Elapsed times (R94) -/

/-- Elapsed times add up where their sum stays within the circle. -/
theorem elapsed_trans {a b c : Word} (h : elapsed a b + elapsed b c < 2 ^ 32) :
    elapsed a c = elapsed a b + elapsed b c := by
  have ha := a.isLt
  have hb := b.isLt
  have hc := c.isLt
  simp only [elapsed_eq] at h ⊢
  omega

theorem timeDiff_of_earlier {a b : Word} (h : earlier a b = true) : timeDiff a b = elapsed a b :=
  if_pos ((earlier_iff a b).mp h).2

/-! ### The interpolated values (R114) -/

/-- A rounded interpolation with a weight below one stays between its ends. -/
theorem interpolate_mem {x y w : Int} (h0 : 0 ≤ w) (h1 : w ≤ 4095) :
    min x y ≤ interpolate x y w ∧ interpolate x y w ≤ max x y := by
  unfold interpolate
  rcases le_total x y with hxy | hxy
  · have hlow : 0 ≤ (y - x) * w := mul_nonneg (by omega) h0
    have hhigh : (y - x) * w ≤ (y - x) * 4096 := mul_le_mul_of_nonneg_left (by omega) (by omega)
    omega
  · have hlow : 0 ≤ (x - y) * w := mul_nonneg (by omega) h0
    have hhigh : (x - y) * w ≤ (x - y) * 4096 := mul_le_mul_of_nonneg_left (by omega) (by omega)
    have hneg : (y - x) * w = -((x - y) * w) := by ring
    omega

/-- The interpolation of two values of `n` bits is one. -/
theorem toNat_ofInt_interpolate {n : Nat} {x y : BitVec n} {w : Int} (h0 : 0 ≤ w) (h1 : w ≤ 4095) :
    ((BitVec.ofInt n (interpolate x.toNat y.toNat w)).toNat : Int) = interpolate x.toNat y.toNat w := by
  obtain ⟨hmin, hmax⟩ := interpolate_mem (x := x.toNat) (y := y.toNat) h0 h1
  have hlow : 0 ≤ interpolate x.toNat y.toNat w :=
    (le_min (Int.natCast_nonneg _) (Int.natCast_nonneg _)).trans hmin
  have hhigh : interpolate x.toNat y.toNat w < ((2 ^ n : Nat) : Int) :=
    hmax.trans_lt (max_lt (Nat.cast_lt.mpr x.isLt) (Nat.cast_lt.mpr y.isLt))
  rw [BitVec.toNat_ofInt, Int.emod_eq_of_lt hlow hhigh, Int.toNat_of_nonneg hlow]

theorem interpolate_eq_floor (x y w : Int) :
    interpolate x y w = x + ⌊(((y - x) * w + 2048 : Int) : ℚ) / 4096⌋ := by
  rw [interpolate, ← floor_intCast_div _ (show (0 : Int) ≤ 4096 by decide), Int.cast_ofNat]

/-- The weight of an instant between two entries, from the elapsed times (R114). -/
theorem between_eq {a b : Entry} {t : Word} (hconv : a.converter = b.converter) (hat : earlier a.tLast t = true)
    (hab : earlier a.tLast b.tFirst = true) :
    between a b t =
      let w : Int := ((elapsed a.tLast t * 4096 / elapsed a.tLast b.tFirst : Nat) : Int)
      { focal := BitVec.ofInt 16 (interpolate a.focal.toNat b.focal.toNat w)
        focus := BitVec.ofInt 12 (interpolate a.focus.toNat b.focus.toNat w)
        converter := a.converter } := by
  rw [between, if_pos hconv, timeDiff_of_earlier hat, timeDiff_of_earlier hab]
  push_cast
  rfl

/-- Settles O6: the elapsed times on both sides of the instant add up to the span, so the weight stays below one. -/
theorem interpolationStaysBetweenItsEntries : Obligations.InterpolationStaysBetweenItsEntries := by
  intro a b t hconv hafter hbefore horder span w mix
  have hat : earlier a.tLast t = true := later_eq_earlier a.tLast t ▸ hafter
  obtain ⟨hat0, hat1⟩ := (earlier_iff _ _).mp hat
  obtain ⟨htb0, htb1⟩ := (earlier_iff _ _).mp hbefore
  have hsum : span = elapsed a.tLast t + elapsed t b.tFirst := elapsed_trans (by omega)
  have hw : w ≤ 4095 := Nat.le_of_lt_succ ((Nat.div_lt_iff_lt_mul (by omega)).mpr (by
    show elapsed a.tLast t * 4096 < 4096 * span
    omega))
  have hw' : (w : Int) ≤ 4095 := by exact_mod_cast hw
  have hfocal := toNat_ofInt_interpolate (x := a.focal) (y := b.focal) (Int.natCast_nonneg w) hw'
  have hfocus := toNat_ofInt_interpolate (x := a.focus) (y := b.focus) (Int.natCast_nonneg w) hw'
  obtain ⟨hfocal0, hfocal1⟩ := interpolate_mem (x := a.focal.toNat) (y := b.focal.toNat) (Int.natCast_nonneg w) hw'
  obtain ⟨hfocus0, hfocus1⟩ := interpolate_mem (x := a.focus.toNat) (y := b.focus.toNat) (Int.natCast_nonneg w) hw'
  rw [show between a b t = _ from between_eq hconv hat horder]
  refine ⟨by omega, hw, hfocal.trans (interpolate_eq_floor _ _ _), hfocus.trans (interpolate_eq_floor _ _ _), rfl, ?_⟩
  show min a.focal.toNat b.focal.toNat ≤ (BitVec.ofInt 16 (interpolate a.focal.toNat b.focal.toNat w)).toNat
    ∧ (BitVec.ofInt 16 (interpolate a.focal.toNat b.focal.toNat w)).toNat ≤ max a.focal.toNat b.focal.toNat
    ∧ min a.focus.toNat b.focus.toNat ≤ (BitVec.ofInt 12 (interpolate a.focus.toNat b.focus.toNat w)).toNat
    ∧ (BitVec.ofInt 12 (interpolate a.focus.toNat b.focus.toNat w)).toNat ≤ max a.focus.toNat b.focus.toNat
  omega

/-! ### The tests of an instant (R110) -/

/-- The search finds the newest entry whose t_first the instant is not earlier than, with the entry after it, if
there is one. -/
theorem newestNotAfter_spec (t : Word) (es : List Entry) (best : Option (Entry × Option Entry)) :
    (∃ pre k post, es = pre ++ k :: post ∧ notEarlier t k.tFirst = true
        ∧ (∀ e ∈ post, notEarlier t e.tFirst = false) ∧ newestNotAfter t best es = some (k, post.head?))
      ∨ ((∀ e ∈ es, notEarlier t e.tFirst = false) ∧ newestNotAfter t best es = best) := by
  induction es generalizing best with
  | nil => exact .inr ⟨fun e he => absurd he List.not_mem_nil, rfl⟩
  | cons e es ih =>
    rw [newestNotAfter]
    rcases ih (if notEarlier t e.tFirst then some (e, es.head?) else best) with
      ⟨pre, k, post, rfl, hk, hpost, hfound⟩ | ⟨hall, hfound⟩
    · exact .inl ⟨e :: pre, k, post, rfl, hk, hpost, hfound⟩
    · by_cases he : notEarlier t e.tFirst = true
      · exact .inl ⟨[], e, es, rfl, he, hall, hfound.trans (if_pos he)⟩
      · rw [if_neg he] at hfound
        refine .inr ⟨List.forall_mem_cons.mpr ⟨by simpa using he, hall⟩, ?_⟩
        rw [if_neg he]
        exact hfound

/-- Tests 1 to 3 of R110, with the search that decides the rest. -/
theorem resolve_of_ends {tl : List Entry} {oldest newest : Entry} (hhead : tl.head? = some oldest)
    (hlast : tl.getLast? = some newest) (hold : Half) (t : Word) :
    resolve tl hold t =
      if later t newest.tLast then
        ⟨newest.lens, { held := true, heldStale := decide ((hold.toNat : Int) < timeDiff newest.tLast t) }⟩
      else if earlier t oldest.tFirst then ⟨oldest.lens, { beforeHistory := true }⟩
      else
        match newestNotAfter t none tl with
        | none => ⟨oldest.lens, { beforeHistory := true }⟩
        | some (k, next?) =>
          if notLater t k.tLast then ⟨k.lens, {}⟩
          else
            match next? with
            | some next => ⟨between k next t, {}⟩
            | none => ⟨k.lens, {}⟩ := by
  rw [resolve, hhead, hlast] <;> rfl

theorem between_eq_ite (k next : Entry) (t : Word) :
    between k next t = if k.converter = next.converter then between k next t else k.lens := by
  split
  · rfl
  · exact if_neg ‹_›

/-- Where tests 2 and 3 do not apply, the search finds an entry, and the instant is after its t_last only where
another entry follows. -/
theorem resolve_between {tl : List Entry} {oldest newest : Entry} (hhead : tl.head? = some oldest)
    (hlast : tl.getLast? = some newest) (hold : Half) {t : Word} (hnewest : later t newest.tLast = false)
    (holdest : earlier t oldest.tFirst = false) :
    ∃ (pre post : List Entry) (k : Entry), tl = pre ++ k :: post
      ∧ notEarlier t k.tFirst = true ∧ (∀ e ∈ post, earlier t e.tFirst = true)
      ∧ (notLater t k.tLast = true → resolve tl hold t = ⟨k.lens, {}⟩)
      ∧ (later t k.tLast = true →
          ∃ next rest, post = next :: rest
            ∧ resolve tl hold t = ⟨if k.converter = next.converter then between k next t else k.lens, {}⟩) := by
  have hresolve := resolve_of_ends hhead hlast hold t
  rw [hnewest, holdest] at hresolve
  rcases newestNotAfter_spec t tl none with ⟨pre, k, post, rfl, hk, hpost, hfound⟩ | ⟨hall, -⟩
  · simp only [hfound] at hresolve
    refine ⟨pre, post, k, rfl, hk, fun e he => by simpa [notEarlier] using hpost e he, fun hin => ?_, fun hout => ?_⟩
    · rw [hresolve]
      exact if_pos hin
    · have hnot : ¬ notLater t k.tLast = true := by simp [notLater, hout]
      cases post with
      | nil =>
        rw [List.getLast?_append_cons, List.getLast?_singleton, Option.some.injEq] at hlast
        rw [hlast, hnewest] at hout
        exact Bool.noConfusion hout
      | cons next rest =>
        refine ⟨next, rest, rfl, ?_⟩
        rw [hresolve, ← between_eq_ite]
        exact if_neg hnot
  · have hmem : oldest ∈ tl := List.mem_of_mem_head? hhead
    have := hall oldest hmem
    simp [notEarlier, holdest] at this

/-- Settles O7: the tests one after the other; the last three are the search's. -/
theorem instantIsResolvedByTheTests : Obligations.InstantIsResolvedByTheTests := by
  refine fun hold t => ⟨rfl, fun tl oldest newest hhead hlast =>
    ⟨fun hlate => ?_, fun hnot hearly => ?_, fun hnot hno => ?_⟩⟩
  · have hdiff : timeDiff newest.tLast t = elapsed newest.tLast t :=
      timeDiff_of_earlier (later_eq_earlier newest.tLast t ▸ hlate)
    rw [resolve_of_ends hhead hlast, if_pos hlate, hdiff]
    simp only [Nat.cast_lt, elapsed]
  · rw [resolve_of_ends hhead hlast, hnot, hearly]
    rfl
  · exact resolve_between hhead hlast hold hnot hno

end Sys2Proof.Machine
end

section
/-! PROOFS. A sample against the timeline (R70, R71): O18; a test of the coverage waits (R119, R132): O19. -/

namespace Sys2Proof.Machine

/-! ### A sample (R70, R71) -/

theorem State.enterSample_late {s : State} {x : Sample} (h : s.isLate x.time = true) :
    s.enterSample x = ({ s with lst := { s.lst with late := satAdd s.lst.late 1 } }, .late, false) :=
  if_pos h

/-- A sample that is not late, its focal value clamped into the record's range. -/
theorem State.enterSample_entered {s : State} {x : Sample} {r : LensRecord} (h : s.isLate x.time = false)
    (hr : s.lst.record = some r) :
    let f := clampFocal r.focalMin r.focalMax x.focal
    let entered := foldOrAppend s.lst.timeline { x with focal := f }
    s.enterSample x =
      ({ s with
          lst := { s.lst with
            timeline := entered.1
            clamps := if f = x.focal then s.lst.clamps else satAdd s.lst.clamps 1 } },
        entered.2, f != x.focal) := by
  dsimp only
  have hclamped : s.clampedFocal x.focal = clampFocal r.focalMin r.focalMax x.focal := by
    rw [State.clampedFocal, hr]
  rw [State.enterSample, if_neg (by simp [h]), hclamped]
  by_cases hf : clampFocal r.focalMin r.focalMax x.focal = x.focal <;> simp [hf]

/-- Steps 3 and 4 of R70 against a timeline whose newest entry is known. -/
theorem foldOrAppend_concat (older : List Entry) (e : Entry) (x : Sample) :
    foldOrAppend (older ++ [e]) x =
      if x.repeats e then (older ++ [{ e with tLast := x.time }], .extended)
      else (appendEntry (older ++ [e]) ⟨x.time, x.time, x.focal, x.focus, x.converter, x.feed⟩, .appended) := by
  rw [foldOrAppend, List.getLast?_concat, List.dropLast_concat]

theorem Sample.repeats_iff (x : Sample) (e : Entry) :
    x.repeats e = true ↔ x.focal = e.focal ∧ x.focus = e.focus ∧ x.converter = e.converter := by
  simp [Sample.repeats, and_assoc]

theorem appendEntry_eq (timeline : List Entry) (e : Entry) :
    appendEntry timeline e = (if timeline.length < 128 then timeline else timeline.tail) ++ [e] := by
  have hfull : Config.timelineCapacity ≤ timeline.length ↔ ¬ timeline.length < 128 := Nat.not_lt.symm
  rw [appendEntry, List.drop_one]
  by_cases hlen : timeline.length < 128
  · rw [if_pos hlen, if_neg (fun h => hfull.mp h hlen)]
  · rw [if_neg hlen, if_pos (hfull.mpr hlen)]

/-- A time is late where it equals the newest t_last or lies half the circle or more after it (R70, R94). -/
theorem State.isLate_iff_elapsed {s : State} {e : Entry} (h : s.lst.timeline.getLast? = some e) (t : Word) :
    s.isLate t = true ↔ (t - e.tLast).toNat = 0 ∨ 2 ^ 31 ≤ (t - e.tLast).toNat := by
  rw [State.isLate_iff h]
  show elapsed t e.tLast ≤ 2 ^ 31 ↔ elapsed e.tLast t = 0 ∨ 2 ^ 31 ≤ elapsed e.tLast t
  by_cases hne : t = e.tLast
  · rw [hne, elapsed_self]
    omega
  · have hswap := elapsed_swap hne
    have hpos : elapsed e.tLast t ≠ 0 := fun h0 => hne ((elapsed_eq_zero_iff _ _).mp h0).symm
    have hlt : elapsed e.tLast t < 2 ^ 32 := BitVec.isLt _
    omega

/-- Settles O18: a late sample, one that repeats the newest entry, and one that does not. -/
theorem sampleIsLateFoldedOrAppended : Obligations.SampleIsLateFoldedOrAppended := by
  intro s x r older e hrecord hrange htimeline f clamps late
  have hf : clampFocal r.focalMin r.focalMax x.focal = f := clampFocal_eq hrange x.focal
  have hlate : s.isLate x.time = true ↔ late :=
    State.isLate_iff_elapsed (by rw [htimeline, List.getLast?_concat]) x.time
  have hrepeats : ({ x with focal := f } : Sample).repeats e = true
      ↔ f = e.focal ∧ x.focus = e.focus ∧ x.converter = e.converter := Sample.repeats_iff _ e
  refine ⟨fun h => State.enterSample_late (hlate.mpr h), fun h hsame => ?_, fun h hother => ?_⟩
  all_goals
    rw [State.enterSample_entered (by simpa using fun h' => h (hlate.mp h')) hrecord]
    simp only [hf, htimeline, foldOrAppend_concat]
  · rw [if_pos (hrepeats.mpr hsame)]
  · rw [if_neg fun h' => hother (hrepeats.mp h'), appendEntry_eq]

/-! ### The coverage waits (R119, R132) -/

theorem covered_iff (timeline : List Entry) (cover : Word) :
    covered timeline cover = true ↔ ∃ e, timeline.getLast? = some e ∧ earlier e.tLast cover = false := by
  unfold covered
  cases timeline.getLast? <;> simp [notEarlier]

theorem settleCover_of_waits {s : State} {r : Request} {c : Word} (h : r.state = .pendingCover)
    (hc : r.coverTime = some c) :
    settleCover s r =
      if covered s.lst.timeline c then r.makeReady false
      else if s.trackerState == .live then r else r.makeReady true := by
  rw [settleCover, h, hc]

theorem settleCover_of_not_waits {s : State} {r : Request} (h : r.state ≠ .pendingCover) : settleCover s r = r := by
  rcases settleCover_cases s r with hsame | ⟨hwaits, -⟩
  · exact hsame
  · exact absurd hwaits h

/-! ### The tracker's state (R68) -/

theorem State.attached_iff {s : State} {r : LensRecord} (h : s.lst.record = some r) :
    s.attached = true ↔ r.presence = .attached := by
  rw [State.attached, h]
  exact beq_iff_eq

theorem State.trackerState_of_not_attached {s : State} (h : s.attached = false) : s.trackerState = .absent := by
  simp [State.trackerState, h]

theorem State.trackerState_of_attached {s : State} (h : s.attached = true) :
    s.trackerState = if s.freshOf s.lst.source then .live else .silent := by
  simp [State.trackerState, h]

/-- Settles O19: a test settles each request in its place by coverage, then by the tracker's state. -/
theorem coverageTestEndsTheWaits : Obligations.CoverageTestEndsTheWaits := by
  intro s covers settled
  have hsettled : ∀ r, settled r (settleCover s r) := by
    refine fun r => ⟨settleCover_of_not_waits, fun c hwaits hc => ?_⟩
    rw [settleCover_of_waits hwaits hc, show covers c ↔ _ from (covered_iff s.lst.timeline c).symm]
    refine ⟨fun h => ?_, fun h hlive => ?_, fun h hlive => ?_⟩
    · rw [if_pos h]
      rfl
    · rw [if_neg h, hlive]
      rfl
    · rw [if_neg h, if_neg (by simpa using hlive)]
      rfl
  refine ⟨rfl, fun p => ?_, fun h => ?_, fun r hr => ⟨fun h => ?_, fun h hsource => ?_, fun h hsource => ?_⟩⟩
  · rw [State.testCover_port]
    exact ⟨rfl, List.forall₂_map_right_iff.mpr (List.forall₂_same.mpr fun r _ => hsettled r)⟩
  · exact State.trackerState_of_not_attached (by simp [State.attached, h])
  · exact State.trackerState_of_not_attached (by simp [State.attached, hr, h])
  · rw [State.trackerState_of_attached ((State.attached_iff hr).mpr h), hsource]
    rfl
  · rw [State.trackerState_of_attached ((State.attached_iff hr).mpr h), hsource]
    rfl

end Sys2Proof.Machine
end

section
/-! PROOFS. The arbiter's choice (R145, R146): O29; the bind (R45, R46): O30. -/

namespace Sys2Proof.Machine

/-! ### The grant point and the arbiter (R145, R146) -/

theorem State.grantPort_of_no_point {s : State} (h : ¬ (s.me.mesh = none ∧ s.me.runState ≠ .hold)) :
    s.grantPort = none := by
  rw [State.grantPort, if_pos]
  rw [Bool.or_eq_true, Option.isSome_iff_ne_none, beq_iff_eq]
  tauto

theorem State.grantPort_of_point {s : State} (h : s.me.mesh = none ∧ s.me.runState ≠ .hold) :
    s.grantPort =
      match s.offers .mp0, s.offers .mp1 with
      | true, true =>
        some (chooseBoth s.config.priority s.config.consecutiveLimit s.me.lastGranted s.me.consecutive)
      | true, false => some .mp0
      | false, true => some .mp1
      | false, false => none := by
  have hpoint : ¬ (s.me.mesh.isSome || s.me.runState == .hold) = true := by simp [h.1, h.2]
  exact if_neg hpoint

theorem State.grantPort_of_no_offer {s : State} (h : ∀ p, s.offers p = false) : s.grantPort = none := by
  by_cases hpoint : s.me.mesh = none ∧ s.me.runState ≠ .hold
  · rw [State.grantPort_of_point hpoint, h, h]
  · exact State.grantPort_of_no_point hpoint

theorem State.grantPort_of_one {s : State} (hpoint : s.me.mesh = none ∧ s.me.runState ≠ .hold) {p : Port}
    (h : s.offers p = true) (hother : s.offers (portOther p) = false) : s.grantPort = some p := by
  rw [State.grantPort_of_point hpoint]
  cases p with
  | mp0 => rw [h, show s.offers .mp1 = false from hother]
  | mp1 => rw [h, show s.offers .mp0 = false from hother]

theorem State.grantPort_of_both {s : State} (hpoint : s.me.mesh = none ∧ s.me.runState ≠ .hold)
    (h0 : s.offers .mp0 = true) (h1 : s.offers .mp1 = true) :
    s.grantPort
      = some (chooseBoth s.config.priority s.config.consecutiveLimit s.me.lastGranted s.me.consecutive) := by
  rw [State.grantPort_of_point hpoint, h0, h1]

/-- A priority favours its port, until that port was granted last and the count has reached the limit. -/
theorem chooseBoth_favoured {priority : ArbiterPriority} {p : Port}
    (h : (priority = .mp0 ∧ p = .mp0) ∨ (priority = .mp1 ∧ p = .mp1)) (limit : Nat) (last : Port) (count : Nat) :
    chooseBoth priority limit last count = if last ≠ p ∨ count < limit then p else portOther p := by
  rcases h with ⟨rfl, rfl⟩ | ⟨rfl, rfl⟩ <;> rfl

theorem exec_grant_idle {s : State} (h : s.grantPort = none) : exec .grant s = .next s := by
  show execGrant s = _
  rw [execGrant, h]

/-- A port offers exactly where its oldest request is READY over a FIFO of at most 1021 words. -/
theorem State.offers_iff_slots (s : State) (p : Port) :
    s.offers p = true ↔
      ∃ r rest, (s.port p).slots = r :: rest ∧ r.state = .ready ∧ (s.port p).fifo.length ≤ 1021 := by
  rw [State.offers_iff]
  simp only [MeshPort.head?, List.head?_eq_some_iff, exists_and_right]

/-- Settles O29: whether a grant point exists, one port offering, and the choice between two. -/
theorem arbiterGrantsByPriority : Obligations.ArbiterGrantsByPriority := by
  intro s offers point
  have hoffers : ∀ p, s.offers p = true ↔ offers p := s.offers_iff_slots
  have hsilent : ∀ p, s.offers p = false ↔ ¬ offers p := fun p => by rw [← hoffers, Bool.not_eq_true]
  refine ⟨fun h => ?_, fun hpoint p hp hother => ?_, fun hpoint h0 h1 => ?_⟩
  · have hnone : s.grantPort = none := by
      rcases h with h | ⟨h0, h1⟩
      · exact State.grantPort_of_no_point h
      · refine State.grantPort_of_no_offer fun p => ?_
        cases p with
        | mp0 => exact (hsilent _).mpr h0
        | mp1 => exact (hsilent _).mpr h1
    exact ⟨hnone, exec_grant_idle hnone⟩
  · exact State.grantPort_of_one hpoint ((hoffers p).mpr hp) ((hsilent _).mpr hother)
  · rw [State.grantPort_of_both hpoint ((hoffers _).mpr h0) ((hoffers _).mpr h1)]
    refine ⟨fun hnone => by rw [hnone]; rfl, fun p hpriority => ⟨fun hfavoured => ?_, fun hlast hcount => ?_⟩⟩
    · rw [chooseBoth_favoured hpriority, if_pos hfavoured]
    · rw [chooseBoth_favoured hpriority, if_neg (by rw [not_or, not_not, Nat.not_lt]; exact ⟨hlast, hcount⟩)]

/-! ### The bind (R45, R46) -/

theorem bindTo_of_profile {s : State} {k : Fin 16} {p : Profile} (h : s.profile? k = some p) (choice : BindCase) :
    bindTo s choice k = some ⟨choice, some k, s.generation k, p.header.lensId, p.header.converter⟩ := by
  rw [bindTo, h]
  rfl

/-- A bind to the slot that a key names carries that key. -/
theorem bindTo_of_slotWithKey {s : State} {id : Word} {c : BitVec 2} {k : Fin 16} (h : s.slotWithKey id c = some k)
    (choice : BindCase) : bindTo s choice k = some ⟨choice, some k, s.generation k, id, c⟩ := by
  obtain ⟨p, hp, hkey⟩ := Option.map_eq_some_iff.mp (State.slotWithKey_some h).1
  cases hkey
  exact bindTo_of_profile hp choice

/-- Without an override the record's key chooses: with the code, with code 0, or not at all. -/
theorem State.bind_of_record {s : State} {r : LensRecord} (hoverride : s.lst.override = none)
    (hr : s.lst.record = some r) (c : BitVec 2) :
    s.bind c =
      (((s.slotWithKey r.lensId c).bind (bindTo s .exact)).or
        ((s.slotWithKey r.lensId 0).bind (bindTo s .fallbackBase))).getD ⟨.noProfile, none, 0, r.lensId, c⟩ := by
  simp [State.bind, hoverride, hr, bindNone]

/-- Settles O30: the four cases of the bind in order. -/
theorem bindChoosesTheFirstCaseThatApplies : Obligations.BindChoosesTheFirstCaseThatApplies := by
  refine fun s c => ⟨fun id c' k => State.slotWithKey_some, fun id c' => State.slotWithKey_none, ?overridden,
    fun hoverride => ⟨?exact, ?base, ?noProfile, ?noRecord⟩⟩
  case overridden =>
    intro k p hoverride hp
    simp [State.bind, hoverride, bindTo_of_profile hp]
  case exact =>
    intro r k hr hk
    rw [State.bind_of_record hoverride hr, hk, Option.bind_some, bindTo_of_slotWithKey hk]
    rfl
  case base =>
    intro r k hr hnone hk
    rw [State.bind_of_record hoverride hr, hnone, hk, Option.bind_some, bindTo_of_slotWithKey hk]
    rfl
  case noProfile =>
    intro r hr hnone hbase
    rw [State.bind_of_record hoverride hr, hnone, hbase]
    rfl
  case noRecord =>
    intro hr
    simp [State.bind, hoverride, hr, bindNone]

end Sys2Proof.Machine
end

section
/-! PROOFS. The unit of a row (R20, R21, R118, R153, R154): O31. -/

namespace Sys2Proof.Machine

/-! ### The grid step and the row time (R3, R106) -/

theorem gridStep_eq (code : BitVec 2) : gridStep code = 2 ^ (4 + code.toNat) := by
  rw [gridStep, pow_add]
  rfl

theorem nodePixel_eq (origin : Half) (code : BitVec 2) (i : Nat) :
    nodePixel origin code i = origin.toNat + i * 2 ^ (4 + code.toNat) := by
  rw [nodePixel, gridStep_eq]

theorem rowTime_eq (f : RequestFields) (h : Half) (strobe : Word) (j : Nat) :
    rowTime f h strobe j =
      strobe + BitVec.ofNat 32
        ((min (f.y0.toNat + j * 2 ^ (4 + f.stepCode.toNat)) (h.toNat - 1) * f.lineTime.toNat + 500) / 1000
          + f.exposure.toNat / 2) := by
  rw [rowTime, rowDelay, nodePixel_eq, readoutDelay]

/-! ### The row header (R194) -/

/-- The nine flags put after the record's code, all at once or one after the other. -/
theorem append_flags (x : BitVec 4) (a b c d e f g h i : BitVec 1) :
    x ++ (a ++ b ++ c ++ d ++ e ++ f ++ g ++ h ++ i) = x ++ a ++ b ++ c ++ d ++ e ++ f ++ g ++ h ++ i := by
  simp only [BitVec.append_assoc', BitVec.cast_eq]

theorem rowHeader_eq (f : RowFlags) (row : Nat) (t : Word) (l : LensState) :
    rowHeader f row t l =
      [0x2#4 ++ BitVec.ofBool f.noState ++ BitVec.ofBool f.beforeHistory ++ BitVec.ofBool f.held
          ++ BitVec.ofBool f.heldStale ++ BitVec.ofBool f.noProfile ++ BitVec.ofBool f.epochChanged
          ++ BitVec.ofBool f.outsideGrid ++ BitVec.ofBool f.converterMismatch ++ BitVec.ofBool f.saturated
          ++ 0#9 ++ l.converter ++ BitVec.ofNat 8 row,
        t, l.focal ++ 0#4 ++ l.focus] := by
  rw [← append_flags]
  rfl

/-- A word with one bit more at its end is 0 where the word is and the bit is clear. -/
theorem append_ofBool_ne_zero {n : Nat} (x : BitVec n) (b : Bool) : (x ++ BitVec.ofBool b != 0) = (x != 0 || b) := by
  have hzero : x ++ BitVec.ofBool b = 0 ↔ x = 0 ∧ b = false := by
    rw [← BitVec.toNat_inj, ← BitVec.toNat_inj, BitVec.toNat_append, BitVec.toNat_ofBool]
    simp [Nat.or_eq_zero_iff, Nat.shiftLeft_eq]
  rw [Bool.eq_iff_iff, Bool.or_eq_true, bne_iff_ne, bne_iff_ne, ne_eq, hzero, not_and_or, Bool.not_eq_false]

/-- A row is flagged where any one of the nine flags is set (R155). -/
theorem RowFlags.any_eq (f : RowFlags) :
    f.any = (f.noState || f.beforeHistory || f.held || f.heldStale || f.noProfile || f.epochChanged || f.outsideGrid
      || f.converterMismatch || f.saturated) := by
  have hfirst : (BitVec.ofBool f.noState != 0) = f.noState := by cases f.noState <;> rfl
  rw [RowFlags.any, RowFlags.bits]
  simp only [append_ofBool_ne_zero, hfirst]

/-! ### The three kinds of row (R20, R21) -/

/-- The resolution of an instant sets no flag but its own four (R118). -/
theorem resolve_flags (tl : List Entry) (hold : Half) (t : Word) :
    let f := (resolve tl hold t).flags
    f.noProfile = false ∧ f.epochChanged = false ∧ f.outsideGrid = false ∧ f.converterMismatch = false
      ∧ f.saturated = false := by
  unfold resolve
  dsimp only
  split
  · split
    · exact ⟨rfl, rfl, rfl, rfl, rfl⟩
    · split
      · exact ⟨rfl, rfl, rfl, rfl, rfl⟩
      · split
        · exact ⟨rfl, rfl, rfl, rfl, rfl⟩
        · split
          · exact ⟨rfl, rfl, rfl, rfl, rfl⟩
          · split <;> exact ⟨rfl, rfl, rfl, rfl, rfl⟩
  · exact ⟨rfl, rfl, rfl, rfl, rfl⟩

theorem State.rowUnit_of_epochChanged {s : State} {m : Mesh} (h : m.epochChanged = true) :
    s.rowUnit m =
      identityUnit m (rowTime m.request.fields s.config.height m.request.strobeTime m.cursor) LensState.zero
        { epochChanged := true } :=
  if_pos h

theorem State.rowUnit_of_no_profile {s : State} {m : Mesh} (h : m.epochChanged = false)
    (hslot : m.binding.slot = none) :
    let t := rowTime m.request.fields s.config.height m.request.strobeTime m.cursor
    let r := resolve s.lst.timeline s.config.holdLimit t
    s.rowUnit m = identityUnit m t r.lens { r.flags with noProfile := true } := by
  have hbound : s.boundProfile m.binding = none := by rw [State.boundProfile, hslot]; rfl
  dsimp only
  rw [State.rowUnit, if_neg (by simp [h]), hbound]

theorem State.rowUnit_of_profile {s : State} {m : Mesh} {k : Fin 16} {p : Profile} (h : m.epochChanged = false)
    (hslot : m.binding.slot = some k) (hp : s.profile? k = some p) :
    let t := rowTime m.request.fields s.config.height m.request.strobeTime m.cursor
    s.rowUnit m = computedUnit m p t (resolve s.lst.timeline s.config.holdLimit t) := by
  have hbound : s.boundProfile m.binding = some p := by rw [State.boundProfile, hslot]; exact hp
  dsimp only
  rw [State.rowUnit, if_neg (by simp [h]), hbound]

theorem fillScale_eq (f : RequestFields) (c : RowCoeffs) :
    fillScale f c =
      match f.fillMode with
      | .profile => c.fill
      | .unity => 1048576
      | .fixed => f.fixedFill.toInt := by
  unfold fillScale
  cases f.fillMode <;> rfl

/-- The nodes of a computed row, from the pixel of each (R3, R5, R21). -/
theorem evalRow_eq (r : Request) (rn : Int) (c : RowCoeffs) (centre : Int × Int) (j : Nat) :
    let step : Nat := 2 ^ (4 + r.fields.stepCode.toNat)
    let node (i : Nat) : List Word × Bool :=
      evalNode r.fields.rgb rn c (fillScale r.fields c) (16 * ((r.fields.x0.toNat : Int) + i * step) - centre.1)
        (16 * ((r.fields.y0.toNat + j * step : Nat) : Int) - centre.2)
    evalRow r rn c centre j
      = ((List.range r.nc).flatMap fun i => (node i).1, ((List.range r.nc).map node).countP (·.2)) := by
  simp only [evalRow, nodeOffset, nodePixel_eq, List.flatMap_map, Nat.cast_add, Nat.cast_mul]

/-- Settles O31: the epoch first, then the profile; the row's time, state and flags are what its header shows. -/
theorem rowIsDecidedWhenItIsReached : Obligations.RowIsDecidedWhenItIsReached := by
  intro s m f step y t row bit zeros x state
  have ht : rowTime m.request.fields s.config.height m.request.strobeTime m.cursor = t := rowTime_eq _ _ _ _
  refine ⟨fun h => ?changed, fun h hslot => ?bare, fun k p h hslot hp => ?computed, resolve_flags _ _ _⟩
  case changed =>
    rw [State.rowUnit_of_epochChanged h, ht, identityUnit]
    have hword : 0x2#4 ++ ({ epochChanged := true } : RowFlags).bits ++ 0#9 ++ (0 : BitVec 2) ++ row
        = 0x204000#24 ++ row := congrArg (· ++ row) (by decide)
    rw [rowHeader, show ((0x2#4 ++ _ ++ 0#9 ++ LensState.zero.converter ++ BitVec.ofNat 8 m.cursor : Word)) = _
      from hword]
    rfl
  case bare =>
    rw [State.rowUnit_of_no_profile h hslot, ht, identityUnit, rowHeader_eq, RowFlags.any_eq]
    simp only [Bool.or_true, Bool.true_or]
    rfl
  case computed =>
    have hflags : _ ∧ _ := resolve_flags s.lst.timeline s.config.holdLimit t
    obtain ⟨-, -, hgrid, hmismatch, hsaturated⟩ := hflags
    rw [State.rowUnit_of_profile h hslot hp, ht, computedUnit]
    simp only [evalRow_eq, rowHeader_eq, RowFlags.any_eq, fillScale_eq]
    rfl

end Sys2Proof.Machine
end

section
/-! PROOFS. A strobe at its unit (R97 to R104): O23. -/

namespace Sys2Proof.Machine

/-! ### The lock machine (R101, R102) -/

theorem natAbs_mul_le_iff (x : Int) (k n : Nat) : x.natAbs * k ≤ n ↔ |x| * k ≤ n := by
  rw [Int.abs_eq_natAbs]
  norm_cast

theorem periodInRange_iff (x : Int) : periodInRange x = true ↔ 1000 ≤ x ∧ x ≤ 2000000 := by
  simp [periodInRange]

/-- A period out of range leaves an empty run. -/
theorem Run.enter_of_outOfRange (r : Run) {x : Int} (h : ¬ (1000 ≤ x ∧ x ≤ 2000000)) : r.enter x = Run.empty :=
  if_pos (by rw [Bool.not_eq_true', ← Bool.not_eq_true, periodInRange_iff]; exact h)

/-- A period in range starts a run where none stands, or where it strays from the first. -/
theorem Run.enter_starts {r : Run} {x : Int} (hx : 1000 ≤ x ∧ x ≤ 2000000)
    (h : r.count = 0 ∨ (r.first : Int) < |x - r.first| * 64) : r.enter x = ⟨x.toNat, 1, x.toNat⟩ := by
  have hfar : r.count ≠ 0 → ¬ (x - r.first).natAbs * 64 ≤ r.first := fun h0 => by
    rw [natAbs_mul_le_iff, not_le]
    exact h.resolve_left h0
  rw [Run.enter, if_neg (by simp [(periodInRange_iff x).mpr hx])]
  by_cases h0 : r.count = 0
  · rw [if_pos h0]
  · rw [if_neg h0, if_neg (hfar h0)]

/-- A period in range and near the first extends the run. -/
theorem Run.enter_extends {r : Run} {x : Int} (hx : 1000 ≤ x ∧ x ≤ 2000000) (h0 : r.count ≠ 0)
    (h : |x - r.first| * 64 ≤ r.first) : r.enter x = ⟨r.first, r.count + 1, r.sum + x.toNat⟩ := by
  rw [Run.enter, if_neg (by simp [(periodInRange_iff x).mpr hx]), if_neg h0,
    if_pos ((natAbs_mul_le_iff (x - r.first) 64 r.first).mpr h)]

/-- A run started afresh, from no run at all. -/
theorem Run.empty_enter (x : Int) :
    Run.empty.enter x = if 1000 ≤ x ∧ x ≤ 2000000 then ⟨x.toNat, 1, x.toNat⟩ else ⟨0, 0, 0⟩ := by
  split
  · exact Run.enter_starts ‹_› (.inl rfl)
  · exact Run.enter_of_outOfRange _ ‹_›

theorem Lock.step_unlocked {r r' : Run} {x : Int} (h : r.enter x = r') (hcount : r'.count ≠ 8) (now : Word) :
    (Lock.unlocked r).step (some x) now = (.unlocked r', .nothing) := by
  rw [Lock.step, h]
  exact if_neg hcount

theorem Lock.step_locks {r r' : Run} {x : Int} (h : r.enter x = r') (hcount : r'.count = 8) (now : Word) :
    (Lock.unlocked r).step (some x) now
      = (.locked (r'.sum / 8) (expiry now (2 * (r'.sum / 8))), .locked (r'.sum / 8)) := by
  rw [Lock.step, h]
  exact if_pos hcount

theorem deviates_iff (period : Nat) (x : Int) : deviates period x = true ↔ (period : Int) < |x - period| * 8 := by
  rw [deviates, decide_eq_true_iff, ← not_le, natAbs_mul_le_iff, not_le]
  rfl

theorem Lock.step_keeps {period : Nat} {x : Int} (h : |x - period| * 8 ≤ period) (timer now : Word) :
    (Lock.locked period timer).step (some x) now = (.locked period (expiry now (2 * period)), .nothing) :=
  if_neg (by rw [deviates_iff, not_lt]; exact h)

theorem Lock.step_loses {period : Nat} {x : Int} (h : (period : Int) < |x - period| * 8) (timer now : Word) :
    (Lock.locked period timer).step (some x) now = (.unlocked (Run.empty.enter x), .lost) :=
  if_pos ((deviates_iff period x).mpr h)

/-! ### The strobe captured (R97 to R99) -/

/-- The events of the lock machine's report (R183). -/
def LockReport.events (p : Port) : LockReport → List (EventKind × Half)
  | .nothing => []
  | .locked period => [(.strobeLocked, lockedParam p period)]
  | .lost => [(.strobeLost, portParam p 0)]

theorem State.postLock_eq (s : State) (p : Port) (r : LockReport) :
    s.postLock p r = { s with eu := s.posting (r.events p) } := by
  cases r <;> rfl

theorem enterRecord_eq (table : List StrobeRecord) (rec : StrobeRecord) :
    enterRecord table rec = (if table.length < 8 then table else table.tail) ++ [rec] := by
  have hfull : Config.tableCapacity ≤ table.length ↔ ¬ table.length < 8 := Nat.not_lt.symm
  rw [enterRecord, List.drop_one]
  by_cases hlen : table.length < 8
  · rw [if_pos hlen, if_neg (fun h => hfull.mp h hlen)]
  · rw [if_neg hlen, if_pos (hfull.mpr hlen)]

/-- A strobe from the step of the lock machine that it takes. -/
theorem exec_strobe {s : State} {p : Port} {lock : Lock} {report : LockReport} (hbusy : s.cp.initBusy = false)
    (hstep : (s.tsu.get p).lock.step ((s.tsu.get p).previous.map fun t => timeDiff t s.time) s.time
      = (lock, report)) :
    let u := s.tsu.get p
    let rec' : StrobeRecord := ⟨u.counter + 1, s.time, report == .lost⟩
    exec (.strobe p) s = .next
      (({ s with
          tsu := s.tsu.set p
            ⟨u.counter + 1, (if u.table.length < 8 then u.table else u.table.tail) ++ [rec'], some s.time, lock⟩
          eu := s.posting (report.events p) }).portStrobe p rec') := by
  dsimp only
  show execStrobe p s = _
  rw [execStrobe, if_neg (by simp [hbusy])]
  simp only [StrobeUnit.capture, hstep, State.postLock_eq, enterRecord_eq]
  rfl

theorem portParam_zero (p : Port) : portParam p 0 = if p = .mp1 then 0x8000#16 else 0#16 := by
  cases p <;> rfl

theorem portParam_side (p : Port) : portParam p 0 = BitVec.ofBool (p == .mp1) ++ 0#15 := by
  cases p <;> rfl

/-! ### The loss timer (R102) -/

theorem exec_lossTimerExpiry_due {s : State} {p : Port} {period : Nat} {x : Word}
    (h : (s.tsu.get p).lock = .locked period x) (hdue : (s.time - x).toNat < 2 ^ 31) :
    exec (.lossTimerExpiry p) s = .next
      { s with
        tsu := s.tsu.set p { s.tsu.get p with lock := .unlocked ⟨0, 0, 0⟩ }
        eu := s.posting [(.strobeLost, (if p = .mp1 then 0x8000#16 else 0#16))] } := by
  have hloss : s.lossDue p = true := by
    rw [State.lossDue, h]
    exact decide_eq_true hdue
  show execLossTimerExpiry p s = _
  rw [execLossTimerExpiry, if_pos hloss, ← portParam_zero]
  rfl

theorem exec_lossTimerExpiry_idle {s : State} {p : Port} (h : s.lossDue p = false) :
    exec (.lossTimerExpiry p) s = .next s := by
  show execLossTimerExpiry p s = _
  rw [execLossTimerExpiry, if_neg (by simp [h])]

/-- Settles O23: the lock machine's step by the tests on the period, then the loss timer. -/
theorem strobeIsCountedRecordedAndJudged : Obligations.StrobeIsCountedRecordedAndJudged := by
  refine ⟨?strobe, fun s p => ⟨fun period x hlock hdue => ?due, fun period x hlock hlate => ?early,
    fun r hlock => ?stopped⟩⟩
  case strobe =>
    intro s p u frame side table captured acts inRange started
    refine ⟨fun hbusy => ?busy, fun hbusy hfirst => ?first, fun before hbusy hprevious => ?judged⟩
    case busy => exact congrArg Host.Outcome.next (if_pos hbusy)
    case first => exact exec_strobe hbusy (report := .nothing) (by rw [show u.previous = none from hfirst]; rfl)
    case judged =>
      intro x
      have hacts : ∀ {lock : Lock} {report : LockReport}, u.lock.step (some x) s.time = (lock, report) →
          acts (report == .lost) lock (report.events p) := fun hstep =>
        exec_strobe hbusy (by rw [show (s.tsu.get p).previous = some before from hprevious]; exact hstep)
      refine ⟨fun r hlock => ?_, fun period timer hlock => ?_⟩
      · rw [hlock] at hacts
        refine ⟨fun hx => ?_, fun hx hstart => ?_, fun hx hcount hnear hseven => ?_, fun hx hnear hcount => ?_⟩
        · exact (hacts (Lock.step_unlocked (r.enter_of_outOfRange hx) (by decide) s.time) :)
        · rw [show started x = _ from if_pos hx]
          exact (hacts (Lock.step_unlocked (Run.enter_starts hx hstart) (show 1 ≠ 8 by decide) s.time) :)
        · exact (hacts (Lock.step_unlocked (Run.enter_extends hx (by omega) hnear) (by simpa using hseven) s.time) :)
        · exact (hacts
            (Lock.step_locks (Run.enter_extends hx (by omega) hnear) (show r.count + 1 = 8 by omega) s.time) :)
      · rw [hlock] at hacts
        refine ⟨fun hkeeps => ?_, fun hloses => ?_⟩
        · exact (hacts (Lock.step_keeps hkeeps timer s.time) :)
        · rw [← portParam_side, show started x = Run.empty.enter x from (Run.empty_enter x).symm]
          exact (hacts (Lock.step_loses hloses timer s.time) :)
  case due => exact exec_lossTimerExpiry_due hlock hdue
  case early =>
    refine exec_lossTimerExpiry_idle ?_
    simp only [State.lossDue, hlock, reached_some, decide_eq_false_iff_not]
    omega
  case stopped => exact exec_lossTimerExpiry_idle (by simp [State.lossDue, hlock])

end Sys2Proof.Machine
end

section
/-! PROOFS. What a port does with a strobe record (R106, R119, R128, R130, R132, R134, R135): O24. -/

namespace Sys2Proof.Machine

/-! ### A frame resolved (R128 to R130) -/

theorem resolveFrame_ready {r : Request} (h : r.fields.waitCover = false) (s : State) (rec : StrobeRecord) :
    resolveFrame s rec r =
      { r with
        strobe := some ⟨rec.frame, rec.time⟩, state := .ready, coverIncomplete := false, waitTimer := none } := by
  rw [resolveFrame, if_neg (by simp [h])]
  rfl

/-- Under WAIT_COVER the request is tested against the time of its last row at once (R119, R132). -/
theorem resolveFrame_waitCover {r : Request} (h : r.fields.waitCover = true) (s : State) (rec : StrobeRecord) :
    let cover := rowTime r.fields s.config.height rec.time (r.nr - 1)
    let waits : Request :=
      { r with strobe := some ⟨rec.frame, rec.time⟩, coverTime := some cover, state := .pendingCover }
    resolveFrame s rec r =
      if covered s.lst.timeline cover then waits.makeReady false
      else if s.trackerState == .live then waits else waits.makeReady true := by
  dsimp only
  rw [resolveFrame, if_pos h]
  exact settleCover_of_waits rfl rfl

theorem freeSlot_map {f : Request → Request} (hf : ∀ r, (f r).slot = r.slot) (slots : List Request) :
    freeSlot (slots.map f) = freeSlot slots := by
  simp [freeSlot, List.all_map, Function.comp_def, hf]

/-! ### A strobe at its port (R130, R134, R135) -/

/-- A request in PENDING_FRAME for the record's frame takes the record; another stays as it is (R130). -/
def takeRecord (s : State) (rec : StrobeRecord) (r : Request) : Request :=
  if r.state = .pendingFrame ∧ r.fields.frame = rec.frame then resolveFrame s rec r else r

theorem takeRecord_slot (s : State) (rec : StrobeRecord) (r : Request) : (takeRecord s rec r).slot = r.slot := by
  unfold takeRecord
  split
  · exact (resolveFrame_cases s rec r).1
  · rfl

/-- The request that a strobe makes in slot `k` from the port's template (R134). -/
def strobeMade (s : State) (p : Port) (rec : StrobeRecord) (k : Fin 4) : Request :=
  resolveFrame s rec
    (newRequest k (s.port p).config.template
      (s.time + BitVec.ofNat 32 (1000 * (s.port p).config.waitLimit.toNat)))

theorem State.resolvePending_eq (s : State) (p : Port) (rec : StrobeRecord) :
    s.resolvePending p rec = s.setPort p { s.port p with slots := (s.port p).slots.map (takeRecord s rec) } := rfl

theorem State.setPort_setPort (s : State) (p : Port) (q q' : MeshPort) :
    (s.setPort p q).setPort p q' = s.setPort p q' := by
  simp [State.setPort]

theorem State.portStrobe_quiet {s : State} {p : Port}
    (h : (s.port p).config.enabled = false ∨ (s.port p).config.mode = .command) (rec : StrobeRecord) :
    s.portStrobe p rec = s.resolvePending p rec := by
  rw [State.portStrobe, if_neg]
  rw [State.resolvePending_eq, State.port_setPort]
  rcases h with h | h <;> simp [h]

/-- A serving port's mode after the strobe (R134). -/
theorem State.portStrobe_serving {s : State} {p : Port} (henabled : (s.port p).config.enabled = true)
    (hmode : (s.port p).config.mode ≠ .command) (rec : StrobeRecord) :
    let t := (s.resolvePending p rec).strobeRequest p rec
    s.portStrobe p rec =
      t.setPort p
        { t.port p with config := { (t.port p).config with mode := (t.port p).config.mode.afterStrobe } } := by
  dsimp only
  rw [State.portStrobe, if_pos]
  rw [State.resolvePending_eq, State.port_setPort]
  simp [henabled, hmode]

theorem portParam_eq (p : Port) (n : Half) :
    portParam p (n.extractLsb' 0 8) = BitVec.ofBool (p == .mp1) ++ 0#7 ++ n.setWidth 8 := by
  rw [BitVec.setWidth_eq_extractLsb' (by decide)]
  rfl

/-- Where no request can be made the strobe is dropped: counted, and STROBE_DROPPED (R135). -/
theorem State.portStrobe_drops {s : State} {p : Port} {rec : StrobeRecord}
    (henabled : (s.port p).config.enabled = true) (hmode : (s.port p).config.mode ≠ .command)
    (h : (s.resolvePending p rec).strobeRequest p rec = (s.resolvePending p rec).dropStrobe p) :
    let q := s.port p
    let n := satAdd q.dropped 1
    s.portStrobe p rec =
      { s with
        ports := s.ports.set p
          { q with
            slots := q.slots.map (takeRecord s rec)
            config := { q.config with mode := q.config.mode.afterStrobe }
            dropped := n }
        eu := s.posting [(.strobeDropped, BitVec.ofBool (p == .mp1) ++ 0#7 ++ n.setWidth 8)] } := by
  dsimp only
  rw [← portParam_eq, State.portStrobe_serving henabled hmode, h, State.resolvePending_eq, State.dropStrobe]
  simp only [State.setPort, State.post, State.port, PerPort.get_set, PerPort.set_set]
  rfl

/-- A request made in slot `k` of a port that the waiting requests, and perhaps a replaced one, have left as `q`. -/
theorem State.portStrobe_makes {s : State} {p : Port} {rec : StrobeRecord} {q : MeshPort} {k : Fin 4}
    (henabled : (s.port p).config.enabled = true) (hmode : (s.port p).config.mode ≠ .command)
    (hq : q.config = (s.port p).config)
    (h : (s.resolvePending p rec).strobeRequest p rec = (s.setPort p q).makeStrobeRequest p rec k) :
    s.portStrobe p rec =
      { s with
        ports := s.ports.set p
          { q with
            slots := q.slots ++ [strobeMade s p rec k]
            config := { q.config with mode := q.config.mode.afterStrobe } } } := by
  rw [State.portStrobe_serving henabled hmode, h, State.makeStrobeRequest]
  simp only [State.port_setPort, State.setPort_setPort, hq]
  rfl

theorem State.strobeRequest_full {s : State} {p : Port} (h : (s.port p).freePlace = false) (rec : StrobeRecord) :
    s.strobeRequest p rec = s.dropStrobe p :=
  if_pos (by simp [h])

theorem State.strobeRequest_free {s : State} {p : Port} {k : Fin 4} (h : (s.port p).freePlace = true)
    (hk : freeSlot (s.port p).slots = some k) (rec : StrobeRecord) :
    s.strobeRequest p rec = s.makeStrobeRequest p rec k := by
  rw [State.strobeRequest, if_neg (by simp [h]), hk]

theorem State.strobeRequest_dropNew {s : State} {p : Port} (h : (s.port p).freePlace = true)
    (hk : freeSlot (s.port p).slots = none) (hpolicy : (s.port p).config.policy = .dropNew) (rec : StrobeRecord) :
    s.strobeRequest p rec = s.dropStrobe p := by
  rw [State.strobeRequest, if_neg (by simp [h]), hk, hpolicy]

theorem State.strobeRequest_replace {s : State} {p : Port} {r : Request} (h : (s.port p).freePlace = true)
    (hk : freeSlot (s.port p).slots = none) (hpolicy : (s.port p).config.policy = .replaceOldest)
    (hr : (s.port p).oldestWaiting = some r) (rec : StrobeRecord) :
    s.strobeRequest p rec
      = (s.setPort p ((s.port p).refuse r .superseded 0)).makeStrobeRequest p rec r.slot := by
  rw [State.strobeRequest, if_neg (by simp [h]), hk, hpolicy, hr]

/-- Settles O24: the waiting requests first; then the strobe's own request by the table of places and slots. -/
theorem strobeResolvesAndMakesRequests : Obligations.StrobeResolvesAndMakesRequests := by
  intro s p rec q copy waits slots mode config made dropped side drops
  have hslots : q.slots.map (takeRecord s rec) = slots := rfl
  have hmode : q.config.mode.afterStrobe = mode := by
    show _ = match q.config.mode with
      | .strobe => TriggerMode.strobe
      | _ => .command
    cases q.config.mode <;> rfl
  refine ⟨fun r => ⟨(resolveFrame_cases s rec r).2.2.1, fun h => resolveFrame_ready h s rec, fun h => ?cover⟩,
    fun h => State.portStrobe_quiet h rec, fun henabled hserves => ?serving⟩
  case cover =>
    intro y cover covers ready
    have hcover : rowTime r.fields s.config.height rec.time (r.nr - 1) = cover := rowTime_eq _ _ _ _
    rw [resolveFrame_waitCover h, hcover, show covers ↔ _ from (covered_iff s.lst.timeline cover).symm]
    refine ⟨fun hc => ?_, fun hc hlive => ?_, fun hc hlive => ?_⟩
    · rw [if_pos hc]
      rfl
    · rw [if_neg hc, hlive]
      rfl
    · rw [if_neg hc, if_neg (by simpa using hlive)]
      rfl
  case serving =>
    have hport : (s.resolvePending p rec).port p = { q with slots := slots } := State.port_setPort _ _ _
    have hplace : ((s.resolvePending p rec).port p).freePlace = true ↔ q.placesUsed < 8 := by
      rw [hport, MeshPort.freePlace_iff]
      simp [MeshPort.placesUsed, MeshPort.reservations, ← hslots]
    have hfree : freeSlot ((s.resolvePending p rec).port p).slots = freeSlot q.slots := by
      rw [hport]
      exact freeSlot_map (takeRecord_slot s rec) q.slots
    have hdrops : (s.resolvePending p rec).strobeRequest p rec = (s.resolvePending p rec).dropStrobe p → drops :=
      fun h => by
        have hdropped := State.portStrobe_drops henabled hserves h
        dsimp only at hdropped
        rw [show (s.port p).config.mode.afterStrobe = mode from hmode] at hdropped
        exact hdropped
    refine ⟨fun hfull => ?_, fun hroom k hother hlower => ?_, fun hroom htaken hpolicy => ?_,
      fun hroom htaken hpolicy r hr => ?_⟩
    · exact hdrops (State.strobeRequest_full (by rw [← Bool.not_eq_true, hplace]; omega) rec)
    · have hk := freeSlot_some.mpr ⟨hother, hlower⟩
      have hmakes := State.portStrobe_makes (q := { q with slots := slots }) henabled hserves rfl
        (State.strobeRequest_free (hplace.mpr hroom) (hfree.trans hk) rec)
      rw [hmode] at hmakes
      exact hmakes
    · exact hdrops (State.strobeRequest_dropNew (hplace.mpr hroom) (hfree.trans (freeSlot_none.mpr htaken))
        (by rw [hport]; exact hpolicy) rec)
    · have hreplace := State.strobeRequest_replace (r := r) (hplace.mpr hroom) (hfree.trans (freeSlot_none.mpr htaken))
        (by rw [hport]; exact hpolicy) (by rw [hport]; exact hr) rec
      rw [hport, State.resolvePending_eq, State.setPort_setPort] at hreplace
      have hmakes := State.portStrobe_makes (q := ({ q with slots := slots } : MeshPort).refuse r .superseded 0)
        henabled hserves rfl hreplace
      rw [show (({ q with slots := slots } : MeshPort).refuse r .superseded 0).config.mode.afterStrobe = mode
        from hmode]
        at hmakes
      exact hmakes

end Sys2Proof.Machine
end

section
/-! PROOFS. The queue of commands and the passing of time (R93, R95, R139, R145, R152, R157, R167, R172): O48. -/

namespace Sys2Proof.Machine

/-! ### Commands take no time -/

theorem exec_time {c : Instr} {s t : State} (h : exec c s = .next t) :
    t.time = s.time ∨ ((c = .powerOn ∨ c = .pinReset) ∧ t.time = 0) := by
  by_cases hreset : c = .powerOn ∨ c = .pinReset
  · rcases exec_reset_cases hreset h with rfl | ⟨cause, rfl⟩ | ⟨hold, -, rfl⟩
    · exact .inl rfl
    · exact .inr ⟨hreset, rfl⟩
    · exact .inr ⟨hreset, rfl⟩
  · have hkeeps : Keeps c .time := by
      cases c with
      | powerOn => exact absurd (.inl rfl) hreset
      | pinReset => exact absurd (.inr rfl) hreset
      | _ => rfl
    exact .inl (exec_frame h hkeeps)

theorem exec_pending {c : Instr} {s t : State} (h : exec c s = .next t) : t.pending = s.pending := by
  have hkeeps : Keeps c .pending := by cases c <;> rfl
  exact exec_frame h hkeeps

/-! ### The empty queue (R93, R167) -/

theorem step_of_empty {s : State} (h : s.pending = []) : step s = idle s := by
  rw [step, h]

theorem step_of_quiet {s : State} (h : s.pending = []) (hdue : s.dueEvents = []) : step s = .next s.tick := by
  rw [step_of_empty h, idle, hdue]

theorem step_of_due {s : State} {c : Instr} {rest : List Instr} (h : s.pending = []) (hdue : s.dueEvents = c :: rest) :
    step s = exec c s := by
  rw [step_of_empty h, idle, hdue]

/-- INIT_BUSY's clearing stands first among the events due. -/
theorem State.dueEvents_initDone {s : State} (h : s.initDone = true) :
    ∃ rest, s.dueEvents = .initBusyClear :: rest := by
  simp only [State.dueEvents, h, dueIf, if_true, List.cons_append]
  exact ⟨_, rfl⟩

/-! ### The events due -/

/-- When an event of the part's own is due. -/
def State.ownDue (s : State) : Instr → Prop
  | .initBusyClear => s.initDone = true
  | .interByteTimeout => s.llr.rx = .inFrame ∧ reached s.time s.llr.byteTimer = true
  | .linkFreshnessExpiry => reached s.time s.llr.freshTimer = true
  | .postedFreshnessExpiry => reached s.time s.lst.postedTimer = true
  | .lossTimerExpiry p => s.lossDue p = true
  | .waitTimerExpiry p k => ∃ r ∈ (s.port p).slots, r.slot = k
      ∧ (r.state = .pendingFrame ∨ r.state = .pendingCover) ∧ reached s.time r.waitTimer = true
  | .unitPlace => s.unitFits = true
  | .stallExpiry => s.stallDue = true
  | .refuseRecordMove p => s.mayMove p = true
  | .grant => s.grantPort.isSome = true
  | _ => False

theorem mem_dueIf (b : Bool) (c i : Instr) : c ∈ dueIf b i ↔ c = i ∧ b = true := by
  unfold dueIf
  cases b <;> simp

theorem State.mem_waitsDue (s : State) (p : Port) (c : Instr) :
    c ∈ s.waitsDue p ↔ ∃ k, c = .waitTimerExpiry p k ∧ s.ownDue (.waitTimerExpiry p k) := by
  simp only [State.waitsDue, List.mem_filterMap, Option.ite_none_right_eq_some, Option.some.injEq, Bool.and_eq_true,
    Bool.or_eq_true, beq_iff_eq, State.ownDue]
  constructor
  · rintro ⟨r, hr, ⟨htimer, hstate⟩, rfl⟩
    exact ⟨r.slot, rfl, r, hr, rfl, hstate, htimer⟩
  · rintro ⟨-, rfl, r, hr, rfl, hstate, htimer⟩
    exact ⟨r, hr, ⟨htimer, hstate⟩, rfl⟩

/-- The list of the events due, with the command handed over as a list of one or none. -/
theorem State.dueEvents_eq (s : State) :
    s.dueEvents =
      dueIf s.initDone .initBusyClear ++ (s.commandDue.map Prod.fst).toList
        ++ dueIf (s.llr.rx == .inFrame && reached s.time s.llr.byteTimer) .interByteTimeout
        ++ dueIf (reached s.time s.llr.freshTimer) .linkFreshnessExpiry
        ++ dueIf (reached s.time s.lst.postedTimer) .postedFreshnessExpiry
        ++ dueIf (s.lossDue .mp0) (.lossTimerExpiry .mp0) ++ dueIf (s.lossDue .mp1) (.lossTimerExpiry .mp1)
        ++ s.waitsDue .mp0 ++ s.waitsDue .mp1 ++ dueIf s.unitFits .unitPlace ++ dueIf s.stallDue .stallExpiry
        ++ dueIf (s.mayMove .mp0) (.refuseRecordMove .mp0) ++ dueIf (s.mayMove .mp1) (.refuseRecordMove .mp1)
        ++ dueIf s.grantPort.isSome .grant := by
  unfold State.dueEvents
  cases s.commandDue <;> rfl

/-- An event is due as one of the part's own, or as the command handed over. -/
theorem State.mem_dueEvents (s : State) (c : Instr) :
    c ∈ s.dueEvents ↔ s.ownDue c ∨ ∃ len, s.commandDue = some (c, len) := by
  have hcommand : c ∈ (s.commandDue.map Prod.fst).toList ↔ ∃ len, s.commandDue = some (c, len) := by
    simp
  simp only [State.dueEvents_eq, List.mem_append, hcommand, mem_dueIf, s.mem_waitsDue, Bool.and_eq_true, beq_iff_eq]
  cases c with
  | lossTimerExpiry p => cases p <;> simp [State.ownDue, or_comm]
  | refuseRecordMove p => cases p <;> simp [State.ownDue, or_comm]
  | waitTimerExpiry p k => cases p <;> simp [State.ownDue, or_comm]
  | _ => simp [State.ownDue, or_comm]

/-! ### The command handed over (R172) -/

theorem commandTable_codes : (commandTable.map Prod.fst).Nodup := by decide

theorem commandTable_commands : (commandTable.map fun row => row.2.1).Nodup := by decide

/-- Every command of the table is a mailbox command, and not BAD_COMMAND. -/
theorem commandTable_body : ∀ row ∈ commandTable, (commandBody row.2.1).isSome = true ∧ row.2.1 ≠ .badCommand := by
  simp [commandTable, commandBody]

theorem find?_commandTable (code : Nat) (row : Nat × Instr × CommandLength) :
    commandTable.find? (fun row => row.1 == code) = some row ↔ row ∈ commandTable ∧ row.1 = code := by
  constructor
  · intro h
    exact ⟨List.mem_of_find?_eq_some h, by simpa using List.find?_some h⟩
  · rintro ⟨hmem, rfl⟩
    cases hfind : commandTable.find? (fun x => x.1 == row.1) with
    | none => simpa using List.find?_eq_none.mp hfind row hmem
    | some row' =>
      have hcode : row'.1 = row.1 := by simpa using List.find?_some hfind
      rw [List.inj_on_of_nodup_map commandTable_codes (List.mem_of_find?_eq_some hfind) hmem hcode]

theorem commandOfCode_some {code : Nat} {c : Instr} {len : CommandLength} :
    commandOfCode code = some (c, len) ↔ (code, c, len) ∈ commandTable := by
  simp only [commandOfCode, Option.map_eq_some_iff, find?_commandTable]
  constructor
  · rintro ⟨⟨code', d⟩, ⟨hmem, rfl⟩, rfl⟩
    exact hmem
  · intro hmem
    exact ⟨_, ⟨hmem, rfl⟩, rfl⟩

theorem commandOfCode_none {code : Nat} : commandOfCode code = none ↔ ∀ row ∈ commandTable, code ≠ row.1 := by
  rw [commandOfCode, Option.map_eq_none_iff, List.find?_eq_none]
  simp only [beq_iff_eq, eq_comm (a := code), ne_eq]

/-- A command whose execution may begin has a length in 4..256 within the written extent (R172, check 1). -/
theorem State.lengthInRange_iff (s : State) :
    s.lengthInRange = true ↔ 4 ≤ s.cmdLength ∧ s.cmdLength ≤ 256 ∧ s.cmdLength ≤ s.cp.extent := by
  simp [State.lengthInRange, and_assoc]

theorem State.commandReady_iff (s : State) :
    s.commandReady = true ↔ s.cp.cmdFlag = true ∧ s.cp.rspFlag = true ∧ s.cp.initBusy = false := by
  simp [State.commandReady, and_assoc]

/-- The row that is due: the one of the command's code, or BAD_COMMAND where the length or the code fails (R172). -/
theorem State.commandDue_eq_some {s : State} {c : Instr} {len : CommandLength} :
    s.commandDue = some (c, len) ↔ s.commandReady = true
      ∧ ((s.lengthInRange = true ∧ (s.cmdCode, c, len) ∈ commandTable)
        ∨ (c = .badCommand ∧ len = .byArguments
          ∧ (s.lengthInRange = true → ∀ row ∈ commandTable, s.cmdCode ≠ row.1))) := by
  unfold State.commandDue
  by_cases hready : s.commandReady = true
  · by_cases hlength : s.lengthInRange = true
    · rw [if_pos hready, if_pos hlength]
      cases hcode : commandOfCode s.cmdCode with
      | none =>
        have hnone := commandOfCode_none.mp hcode
        have habsent : (s.cmdCode, c, len) ∉ commandTable := fun hmem => hnone _ hmem rfl
        rw [Option.getD_none, Option.some.injEq, Prod.mk.injEq]
        exact ⟨fun h => ⟨hready, .inr ⟨h.1.symm, h.2.symm, fun _ => hnone⟩⟩,
          fun h => h.2.elim (fun h => absurd h.2 habsent) fun h => ⟨h.1.symm, h.2.1.symm⟩⟩
      | some d =>
        rw [Option.getD_some, ← commandOfCode_some, hcode]
        refine ⟨fun h => ⟨hready, .inl ⟨hlength, h⟩⟩, fun h => h.2.elim And.right fun h => ?_⟩
        exact absurd rfl (h.2.2 hlength _ (commandOfCode_some.mp hcode))
    · simp [hready, hlength, eq_comm]
  · simp [hready]

theorem State.commandDue_body {s : State} {c : Instr} {len : CommandLength} (h : s.commandDue = some (c, len)) :
    (commandBody c).isSome = true := by
  obtain ⟨-, ⟨-, hmem⟩ | ⟨rfl, -⟩⟩ := State.commandDue_eq_some.mp h
  · exact (commandTable_body _ hmem).1
  · rfl

/-- An event of the part's own is due when its own condition holds. -/
theorem State.mem_dueEvents_own {s : State} {c : Instr} (h : commandBody c = none) : c ∈ s.dueEvents ↔ s.ownDue c := by
  rw [State.mem_dueEvents, or_iff_left]
  rintro ⟨len, hdue⟩
  have := State.commandDue_body hdue
  simp [h] at this

theorem State.ownDue_body {s : State} {c : Instr} (h : s.ownDue c) : commandBody c = none := by
  cases c <;> first | rfl | exact h.elim

/-- A mailbox command is due where it is the one handed over. -/
theorem State.mem_dueEvents_command {s : State} {c : Instr} (h : (commandBody c).isSome = true) :
    c ∈ s.dueEvents ↔ ∃ len, s.commandDue = some (c, len) := by
  rw [State.mem_dueEvents, or_iff_right]
  intro hown
  simp [State.ownDue_body hown] at h

theorem State.mem_dueEvents_row {s : State} {row : Nat × Instr × CommandLength} (hrow : row ∈ commandTable) :
    row.2.1 ∈ s.dueEvents ↔ s.commandReady = true ∧ s.lengthInRange = true ∧ s.cmdCode = row.1 := by
  obtain ⟨hbody, hbad⟩ := commandTable_body row hrow
  rw [State.mem_dueEvents_command hbody]
  constructor
  · rintro ⟨len, hdue⟩
    obtain ⟨hready, ⟨hlength, hmem⟩ | ⟨heq, -⟩⟩ := State.commandDue_eq_some.mp hdue
    · have hsame := List.inj_on_of_nodup_map commandTable_commands hmem hrow rfl
      exact ⟨hready, hlength, congrArg Prod.fst hsame⟩
    · exact absurd heq hbad
  · rintro ⟨hready, hlength, hcode⟩
    exact ⟨row.2.2, State.commandDue_eq_some.mpr ⟨hready, .inl ⟨hlength, hcode ▸ hrow⟩⟩⟩

theorem State.mem_dueEvents_badCommand {s : State} :
    .badCommand ∈ s.dueEvents ↔ s.commandReady = true
      ∧ (s.lengthInRange = true → ∀ row ∈ commandTable, s.cmdCode ≠ row.1) := by
  rw [State.mem_dueEvents_command rfl]
  constructor
  · rintro ⟨len, hdue⟩
    obtain ⟨hready, ⟨-, hmem⟩ | ⟨-, -, hnone⟩⟩ := State.commandDue_eq_some.mp hdue
    · exact absurd rfl (commandTable_body _ hmem).2
    · exact ⟨hready, hnone⟩
  · rintro ⟨hready, hnone⟩
    exact ⟨.byArguments, State.commandDue_eq_some.mpr ⟨hready, .inr ⟨rfl, rfl, hnone⟩⟩⟩

/-! ### The conditions of the part's own events (R95, R139, R152, R157) -/

theorem reached_iff (now : Word) (timer : Option Word) :
    reached now timer = true ↔ ∃ t, timer = some t ∧ (now - t).toNat < 2 ^ 31 := by
  cases timer with
  | none => simp
  | some t =>
    rw [reached_some, decide_eq_true_iff]
    exact ⟨fun h => ⟨t, rfl, h⟩, fun ⟨_, ht, h⟩ => Option.some.inj ht ▸ h⟩

theorem State.lossDue_iff (s : State) (p : Port) :
    s.lossDue p = true ↔ ∃ period t, (s.tsu.get p).lock = .locked period t ∧ reached s.time (some t) = true := by
  unfold State.lossDue
  cases (s.tsu.get p).lock <;> simp

theorem State.unitFits_iff (s : State) :
    s.unitFits = true ↔ ∃ m, s.me.mesh = some m ∧ (s.port m.port).fifo.length + m.unit.words.length ≤ 1021 := by
  unfold State.unitFits
  cases s.me.mesh <;> simp [State.fits_iff]

theorem State.stallDue_iff (s : State) :
    s.stallDue = true ↔ ∃ m, s.me.mesh = some m
      ∧ ¬ (s.port m.port).fifo.length + m.unit.words.length ≤ 1021 ∧ reached s.time m.stallTimer = true := by
  unfold State.stallDue
  cases s.me.mesh with
  | none => simp
  | some m =>
    simp only [Bool.and_eq_true, Bool.not_eq_true', ← Bool.not_eq_true, State.fits_iff, Option.some.injEq,
      exists_eq_left']
    exact and_comm

theorem State.mayMove_iff (s : State) (p : Port) :
    s.mayMove p = true ↔ s.inProgress p = false ∧ (s.port p).replies ≠ [] ∧ (s.port p).fifo.length + 2 ≤ 1021 := by
  rw [State.mayMove, Bool.and_eq_true, Bool.and_eq_true, Bool.not_eq_true', Bool.not_eq_true',
    List.isEmpty_eq_false_iff, decide_eq_true_iff, and_assoc]
  rfl

/-- Settles O48: the frame of each command, the three branches of an idle step, and the list of events due read event
by event. -/
theorem timePassesOnlyOnAnEmptyQueue : Obligations.TimePassesOnlyOnAnEmptyQueue := by
  refine ⟨fun c s t h => ⟨exec_pending h, exec_time h⟩, fun s hempty => ⟨fun hdue hold => ?_, fun hdue hold => ?_,
    fun c rest hdue => step_of_due hempty hdue, fun hbusy hold htime => ?_⟩, fun s => ?_⟩
  · rw [step_of_quiet hempty hdue, State.tick, State.unlessHeld_released hold]
  · rw [step_of_quiet hempty hdue, State.tick, State.unlessHeld_held hold]
  · have hdone : s.initDone = true := by
      rw [State.initDone, hbusy, hold]
      exact decide_eq_true ((min_le_left _ _).trans htime)
    obtain ⟨rest, hdue⟩ := State.dueEvents_initDone hdone
    exact step_of_due hempty hdue
  intro due past room ready fits table
  have htable : table = commandTable.map fun row => (row.1, row.2.1) := rfl
  have hready : s.commandReady = true ↔ ready := s.commandReady_iff
  have hfits : s.lengthInRange = true ↔ fits := s.lengthInRange_iff
  have hpast : ∀ x, reached s.time x = true ↔ past x := reached_iff s.time
  refine ⟨fun h => ?initBusyClear, ?rows, ?badCommand, ?interByte, ?linkFresh, ?postedFresh, fun p => ?loss,
    fun p k => ?wait, ?unitPlace, ?stall, fun p => ?move, ?grant, fun c h => ?only⟩
  case initBusyClear =>
    have hdone : s.initDone = true := (State.mem_dueEvents_own rfl).mp h
    rw [State.initDone, Bool.and_eq_true, Bool.and_eq_true, beq_iff_eq] at hdone
    exact hdone.1
  case rows =>
    rw [htable, List.forall_mem_map]
    intro row hrow
    rw [← hready, ← hfits]
    exact State.mem_dueEvents_row hrow
  case badCommand =>
    rw [htable, List.forall_mem_map, ← hready, ← hfits]
    exact State.mem_dueEvents_badCommand
  case interByte => exact (State.mem_dueEvents_own rfl).trans (and_congr_right fun _ => hpast _)
  case linkFresh => exact (State.mem_dueEvents_own rfl).trans (hpast _)
  case postedFresh => exact (State.mem_dueEvents_own rfl).trans (hpast _)
  case loss =>
    refine (State.mem_dueEvents_own rfl).trans ((s.lossDue_iff p).trans ?_)
    simp only [hpast]
  case wait =>
    refine (State.mem_dueEvents_own rfl).trans ?_
    simp only [State.ownDue, hpast]
  case unitPlace => exact (State.mem_dueEvents_own rfl).trans s.unitFits_iff
  case stall =>
    refine (State.mem_dueEvents_own rfl).trans (s.stallDue_iff.trans ?_)
    simp only [hpast]
    rfl
  case move => exact (State.mem_dueEvents_own rfl).trans (s.mayMove_iff p)
  case grant => exact (State.mem_dueEvents_own rfl).trans Option.isSome_iff_ne_none
  case only =>
    rcases (s.mem_dueEvents c).mp h with hown | ⟨len, hdue⟩
    · cases c with
      | lossTimerExpiry p => exact .inr (.inr ⟨p, .inl rfl⟩)
      | refuseRecordMove p => exact .inr (.inr ⟨p, .inr (.inl rfl)⟩)
      | waitTimerExpiry p k => exact .inr (.inr ⟨p, .inr (.inr ⟨k, rfl⟩)⟩)
      | _ => first | exact hown.elim | exact .inl (by simp)
    · obtain ⟨-, ⟨-, hmem⟩ | ⟨rfl, -⟩⟩ := State.commandDue_eq_some.mp hdue
      · refine .inr (.inl ?_)
        rw [htable, List.map_map]
        exact List.mem_map_of_mem (f := fun row => row.2.1) hmem
      · exact .inl (by simp)

end Sys2Proof.Machine
end

section
/-! PROOFS. The lens link receiver: bytes that complete no frame (R51, R52, R63): O14; the causes of a check error (R54,
R55): O17; the freshness timers (R61, R79, R80, R82): O16. -/

namespace Sys2Proof.Machine

/-! ### A byte at the receiver (R51, R52) -/

theorem exec_linkByte (b : Byte) (s : State) : exec (.linkByte b) s = .next (s.clearBits.receiveByte b) := rfl

theorem State.receiveByte_busy {s : State} (h : s.cp.initBusy = true) (b : Byte) : s.receiveByte b = s :=
  if_pos h

theorem State.receiveByte_hunt {s : State} (hbusy : s.cp.initBusy = false) (h : s.llr.rx = .hunt) (b : Byte) :
    s.receiveByte b = if b = syncByte then s.openFrame else s := by
  rw [State.receiveByte, if_neg (by simp [hbusy]), h]

theorem State.receiveByte_idle {s : State} (hbusy : s.cp.initBusy = false) (h : s.llr.rx = .idle) (b : Byte) :
    s.receiveByte b = if b = syncByte then s.openFrame else s.checkError := by
  rw [State.receiveByte, if_neg (by simp [hbusy]), h]

theorem State.receiveByte_inFrame {s : State} (hbusy : s.cp.initBusy = false) (h : s.llr.rx = .inFrame) (b : Byte) :
    s.receiveByte b = s.byteInFrame b := by
  rw [State.receiveByte, if_neg (by simp [hbusy]), h]

/-- The byte after a payload is the CHECK byte where the payload has the length that LEN gives. -/
theorem isCheckByte_cons (head len : Byte) (payload : List Byte) :
    isCheckByte (head :: len :: payload) = decide (payload.length = len.toNat) := by
  rw [isCheckByte, Bool.eq_iff_iff, Bool.and_eq_true]
  simp only [List.length_cons, List.getD_cons_succ, List.getD_cons_zero, decide_eq_true_iff]
  omega

theorem isCheckByte_of_short {frame : List Byte} (h : frame.length ≤ 1) : isCheckByte frame = false := by
  simp [isCheckByte]
  omega

theorem State.byteInFrame_stored {s : State} {b : Byte} (hcheck : isCheckByte s.llr.frame = false)
    (hlen : ¬ (s.llr.frame.length = 1 ∧ 15 < b.toNat)) : s.byteInFrame b = s.storeByte b := by
  rw [State.byteInFrame, if_neg (by simp [hcheck]), if_neg hlen]

theorem State.byteInFrame_tooLong {s : State} {b : Byte} (hlen : s.llr.frame.length = 1) (hb : 15 < b.toNat) :
    s.byteInFrame b = s.checkError := by
  rw [State.byteInFrame, if_neg (by simp [isCheckByte_of_short hlen.le]), if_pos ⟨hlen, hb⟩]

/-- The CHECK byte of a frame ends it, intact or not (R54). -/
theorem State.byteInFrame_check {s : State} {b : Byte} (hcheck : isCheckByte s.llr.frame = true) :
    s.byteInFrame b =
      if sumIsZero (s.llr.frame ++ [b]) then s.intactFrame (s.llr.frame ++ [b]) else s.checkError :=
  if_pos hcheck

theorem sumIsZero_iff (bytes : List Byte) : sumIsZero bytes = true ↔ bytes.foldl (· + ·) 0 = 0 := beq_iff_eq

/-- Settles O14: the receiver's state, then inside a frame the number of bytes held. -/
theorem linkByteMovesTheReceiver : Obligations.LinkByteMovesTheReceiver := by
  intro s b opened stored dropped
  have hstored : ∀ {frame : List Byte}, s.cp.initBusy = false → s.llr.rx = .inFrame → s.llr.frame = frame →
      isCheckByte frame = false → ¬ (frame.length = 1 ∧ 15 < b.toNat) → exec (.linkByte b) s = .next stored :=
    fun hbusy hrx hframe hcheck hlen => by
      subst hframe
      rw [exec_linkByte, State.receiveByte_inFrame (s := s.clearBits) hbusy hrx,
        State.byteInFrame_stored (s := s.clearBits) hcheck hlen]
      rfl
  refine ⟨fun hbusy => ?_, fun hbusy hrx => ?_, fun hbusy hrx hsync => ?_, fun hbusy hrx hframe => ?_,
    fun hbusy hrx hframe hlen => ?_, fun head len payload hbusy hrx hframe hlen => ?_⟩
  · rw [exec_linkByte, State.receiveByte_busy (s := s.clearBits) hbusy]
    rfl
  · rw [exec_linkByte, State.receiveByte_hunt (s := s.clearBits) hbusy hrx]
    rfl
  · rw [exec_linkByte, State.receiveByte_idle (s := s.clearBits) hbusy hrx, if_pos (show b = syncByte from hsync)]
    rfl
  · exact hstored hbusy hrx hframe rfl (by simp)
  · exact hstored hbusy hrx rfl (isCheckByte_of_short hframe.le) (by omega)
  · exact hstored hbusy hrx hframe (by simpa [isCheckByte_cons] using hlen) (by simp)

/-! ### Check errors (R54, R55) -/

theorem State.checkError_eq (s : State) :
    s.checkError =
      { s with
        llr := { s.llr with
          rx := .hunt
          frame := []
          byteTimer := none
          checkErrors := satAdd s.llr.checkErrors 1
          errorRun := if s.llr.errorRun = 2 then 0 else s.llr.errorRun + 1
          good := 0 }
        eu := if s.llr.errorRun = 2 then s.posting [(.linkErrors, satAdd s.llr.checkErrors 1)] else s.eu } := by
  unfold State.checkError
  by_cases hrun : s.llr.errorRun = 2
  · simp only [hrun, if_true]
    rfl
  · have hnot : ¬ s.llr.errorRun + 1 = 3 := by omega
    simp only [hrun, hnot, if_false]

theorem exec_linkRunt {bits : Nat} (h : 1 ≤ bits ∧ bits ≤ 7) (s : State) :
    exec (.linkRunt bits) s = .next s.clearBits.receiveRunt :=
  if_pos (by simpa [Instr.wellFormed] using h)

theorem State.receiveRunt_dropped {s : State} (h : s.cp.initBusy = true ∨ s.llr.rx = .hunt) : s.receiveRunt = s := by
  unfold State.receiveRunt
  rcases h with h | h <;> simp [h]

theorem State.receiveRunt_checkError {s : State} (hbusy : s.cp.initBusy = false) (h : s.llr.rx ≠ .hunt) :
    s.receiveRunt = s.checkError := by
  rw [State.receiveRunt, if_neg (by simp [hbusy])]
  cases hrx : s.llr.rx with
  | hunt => exact absurd hrx h
  | idle => rfl
  | inFrame => rfl

/-- The inter-byte timeout expires inside a frame, its timer reached; otherwise it has no effect (R53). -/
theorem exec_interByteTimeout (s : State) :
    exec .interByteTimeout s
      = .next (if s.llr.rx = .inFrame ∧ reached s.time s.llr.byteTimer then s.checkError else s) := rfl

/-- Settles O17: each cause comes down to `checkError`; the other runts and timeouts to nothing. -/
theorem checkErrorDiscardsTheFrame : Obligations.CheckErrorDiscardsTheFrame := by
  refine ⟨fun s c hcause => ?_, fun s bits => ⟨fun h1 h7 hdrop => ?_, fun hbad => ?_, fun hidle => ?_,
    fun x htimer hlate => ?_⟩⟩
  · rcases hcause with ⟨bits, rfl, h1, h7, hbusy, hrx⟩ | ⟨rfl, hrx, x, htimer, hpast⟩ | ⟨b, rfl, hbusy, hbyte⟩
    · rw [exec_linkRunt ⟨h1, h7⟩, State.receiveRunt_checkError (s := s.clearBits) hbusy hrx, State.checkError_eq]
      rfl
    · rw [exec_interByteTimeout, htimer, if_pos ⟨hrx, by rw [reached_some]; exact decide_eq_true hpast⟩,
        State.checkError_eq]
      rfl
    · have hcheck : exec (.linkByte b) s = .next s.clearBits.checkError := by
        rw [exec_linkByte]
        rcases hbyte with ⟨hrx, hsync⟩ | ⟨hrx, hlen, hb⟩ | ⟨hrx, head, len, payload, hframe, hlen, hsum⟩
        · rw [State.receiveByte_idle (s := s.clearBits) hbusy hrx, if_neg (show ¬ b = syncByte from hsync)]
        · rw [State.receiveByte_inFrame (s := s.clearBits) hbusy hrx,
            State.byteInFrame_tooLong (s := s.clearBits) hlen hb]
        · have hend : isCheckByte s.clearBits.llr.frame = true := by
            show isCheckByte s.llr.frame = true
            rw [hframe, isCheckByte_cons]
            exact decide_eq_true hlen
          rw [State.receiveByte_inFrame (s := s.clearBits) hbusy hrx, State.byteInFrame_check hend, if_neg]
          rw [sumIsZero_iff]
          exact hsum
      rw [hcheck, State.checkError_eq]
      rfl
  · rw [exec_linkRunt ⟨h1, h7⟩, State.receiveRunt_dropped (s := s.clearBits) hdrop]
    rfl
  · exact if_neg (by simp [Instr.wellFormed]; omega)
  · rw [exec_interByteTimeout, if_neg]
    rintro ⟨hrx, htimer⟩
    rcases hidle with h | h
    · exact h hrx
    · simp [h] at htimer
  · rw [exec_interByteTimeout, htimer, if_neg]
    rintro ⟨-, hreached⟩
    rw [reached_some, decide_eq_true_iff] at hreached
    omega

/-! ### The freshness timers (R61, R79, R80, R82) -/

theorem State.failover_eq (s : State) :
    s.failover =
      if s.config.autoFailover = true ∧ s.lst.source = .link ∧ s.llr.fresh = false ∧ s.lst.postedFresh = true then
        s.changeSource .posted true
      else s := by
  unfold State.failover
  refine if_congr ?_ rfl rfl
  simp [and_assoc]

theorem reached_of_some {now t : Word} {timer : Option Word} (h : timer = some t) (hpast : (now - t).toNat < 2 ^ 31) :
    reached now timer = true := by
  rw [h, reached_some]
  exact decide_eq_true hpast

theorem not_reached_of_some {now t : Word} {timer : Option Word} (h : timer = some t)
    (hlate : 2 ^ 31 ≤ (now - t).toNat) : ¬ reached now timer = true := by
  rw [h, reached_some, decide_eq_true_iff]
  omega

/-- Settles O16: each timer's expiry, and the failover that a stale link may bring. -/
theorem freshnessExpiryMakesTheFeedStale : Obligations.FreshnessExpiryMakesTheFeedStale := by
  intro s
  have hlink : exec .linkFreshnessExpiry s = .next
      (if reached s.time s.llr.freshTimer then
        (({ s with llr := { s.llr with freshTimer := none, good := 0 } }).becomeStale .link).failover
      else s) := rfl
  have hposted : exec .postedFreshnessExpiry s = .next
      (if reached s.time s.lst.postedTimer then
        ({ s with lst := { s.lst with postedTimer := none } }).becomeStale .posted
      else s) := rfl
  refine ⟨fun x htimer hpast => ?_, fun htimer => ?_, fun x htimer hlate => ?_, fun x htimer hpast => ?_,
    fun htimer => ?_, fun x htimer hlate => ?_⟩
  · intro stale fails
    have hstale : ({ s with llr := { s.llr with freshTimer := none, good := 0 } }).becomeStale .link
        = stale.testCover := rfl
    rw [hlink, if_pos (reached_of_some htimer hpast), hstale, State.failover_eq]
    by_cases hfails : fails
    · rw [if_pos ⟨hfails.1, hfails.2.1, rfl, hfails.2.2⟩, if_pos hfails]
      rfl
    · rw [if_neg fun h => hfails ⟨h.1, h.2.1, h.2.2.2⟩, if_neg hfails]
  · rw [hlink, htimer]
    rfl
  · rw [hlink, if_neg (not_reached_of_some htimer hlate)]
  · rw [hposted, if_pos (reached_of_some htimer hpast)]
    rfl
  · rw [hposted, htimer]
    rfl
  · rw [hposted, if_neg (not_reached_of_some htimer hlate)]

end Sys2Proof.Machine
end

section
/-! PROOFS. What the tracker does with an attach, a detach and a converter change (R47, R73, R74, R77), and with each
report of the link (R72, R76, R83). -/

namespace Sys2Proof.Machine

/-! ### The named operations, field by field -/

/-- The event of the profile check for a key: none where the exact or the base key is held (R47). -/
def State.unprofiled (s : State) (id : Word) (c : BitVec 2) : List (EventKind × Half) :=
  if (s.slotWithKey id c).isSome = true ∨ (s.slotWithKey id 0).isSome = true then [] else [(.noProfile, c.setWidth 16)]

theorem State.posting_cons (s : State) (e : EventKind × Half) (es : List (EventKind × Half)) :
    s.posting (e :: es) = ({ s with eu := s.posting [e] }).posting es :=
  s.posting_append [e] es

/-- A posting followed by the profile check (R47). -/
theorem State.post_profileCheck {s u : State} {r : LensRecord} (hr : u.lst.record = some r) (hstore : u.store = s.store)
    (k : EventKind) (v : Half) :
    (u.post k v).profileCheck = { u with eu := u.posting ((k, v) :: s.unprofiled r.lensId r.converter) } := by
  rw [State.profileCheck_eq (s := u.post k v) hr hstore, State.posting_cons]
  rfl

/-- An attach whose focal range is in order (R73). -/
theorem State.attach_eq (s : State) {a : Attach} (h : a.focalMin.toNat ≤ a.focalMax.toNat) (t : Word) (feed : Feed) :
    let focal := BitVec.ofNat 16 (max a.focalMin.toNat (min a.focalMax.toNat a.focal.toNat))
    s.attach a t feed =
      (({ s with
          lst := { s.lst with
            record := some
              { lensId := a.lensId, firmware := a.firmware, focalMin := a.focalMin, focalMax := a.focalMax
                converter := a.converter, presence := .attached, epoch := s.lst.epoch + 1 }
            epoch := s.lst.epoch + 1
            timeline := [{ tFirst := t, tLast := t, focal := focal, focus := a.focus
                           converter := a.converter, source := feed }]
            clamps := if focal = a.focal then s.lst.clamps else satAdd s.lst.clamps 1
            override := none }
          eu := s.posting ((.lensAttached, s.lst.epoch + 1) :: s.unprofiled a.lensId a.converter) }).testCover,
        focal != a.focal) := by
  dsimp only
  rw [State.attach, clampFocal_eq h]
  refine Prod.ext (congrArg State.testCover ?_) rfl
  refine (State.post_profileCheck (s := s) (r :=
    { lensId := a.lensId, firmware := a.firmware, focalMin := a.focalMin, focalMax := a.focalMax
      converter := a.converter, presence := .attached, epoch := s.lst.epoch + 1 }) ?_ ?_ _ _).trans ?_
  · rfl
  · rfl
  by_cases hfocal : BitVec.ofNat 16 (max a.focalMin.toNat (min a.focalMax.toNat a.focal.toNat)) = a.focal
  · simp only [hfocal, bne_self_eq_false, Bool.false_eq_true, if_false, if_true]
    rfl
  · simp only [bne_iff_ne.mpr hfocal, hfocal, if_true, if_false]
    rfl

theorem State.detach_eq {s : State} {r : LensRecord} (h : s.lst.record = some r) :
    s.detach =
      ({ s with
        lst := { s.lst with record := some { r with presence := .detached } }
        eu := s.posting [(.lensDetached, s.lst.epoch)] }).testCover := by
  rw [State.detach, h]
  rfl

theorem State.changeConverter_eq {s : State} {r : LensRecord} (h : s.lst.record = some r) (c : BitVec 2) :
    s.changeConverter c =
      { s with
        lst := { s.lst with record := some { r with converter := c } }
        eu := s.posting ((.converterChanged, c.setWidth 16) :: s.unprofiled r.lensId c) } := by
  rw [State.changeConverter, h]
  refine State.post_profileCheck (s := s) (r := { r with converter := c }) ?_ ?_ _ _
  · rfl
  · rfl

theorem State.recordConverter_eq {s : State} {r : LensRecord} (h : s.lst.record = some r) :
    s.recordConverter = r.converter := by
  rw [State.recordConverter, h]
  rfl

theorem State.heartbeat_eq {s : State} {r : LensRecord} {e : Entry} (hr : s.lst.record = some r)
    (he : s.lst.timeline.getLast? = some e) (t : Word) :
    s.heartbeat t = (s.enterSample ⟨t, e.focal, e.focus, r.converter, .link⟩).1 := by
  rw [State.heartbeat, State.newest?, he, ← State.recordConverter_eq hr]

theorem State.converterReport_eq {s : State} {r : LensRecord} {e : Entry} (hr : s.lst.record = some r)
    (he : s.lst.timeline.getLast? = some e) (c : BitVec 2) (t : Word) :
    s.converterReport c t =
      ((if c = r.converter then s else s.changeConverter c).enterSample ⟨t, e.focal, e.focus, c, .link⟩).1 := by
  rw [State.converterReport, State.recordConverter_eq hr]
  by_cases hc : c = r.converter
  · rw [if_pos hc, if_pos hc, State.heartbeat_eq hr he, hc]
  · rw [if_neg hc, if_neg hc, State.changeConverter_eq hr]
    refine State.heartbeat_eq (r := { r with converter := c }) ?_ ?_ t
    · rfl
    · exact he

/-! ### The automatic return and the reports (R72, R83) -/

/-- A report that bears a position returns the source to the link where R83 has it. -/
theorem State.autoReturn_eq (s : State) {r : Report} (h : r.bearsPosition = true) (good : Nat) :
    s.autoReturn r good =
      if s.config.autoReturn = true ∧ s.lst.source = .posted ∧ good = 3 then
        ({ s with lst := { s.lst with source := .link }, eu := s.posting [(.sourceChanged, 0x0100#16)] }).testCover
      else s := by
  unfold State.autoReturn
  refine if_congr ?_ rfl rfl
  simp [h, and_assoc]

theorem State.autoReturn_other (s : State) {r : Report} (h : r.bearsPosition = false) (good : Nat) :
    s.autoReturn r good = s :=
  if_neg (by simp [h])

/-- The automatic return keeps the record and the timeline. -/
theorem State.autoReturn_lst (s : State) (r : Report) (good : Nat) :
    (s.autoReturn r good).lst = { s.lst with source := (s.autoReturn r good).lst.source } := by
  unfold State.autoReturn
  split <;> rfl

/-- A position, heartbeat or converter report: applied by an attached lens's tracker whose source is the link. -/
theorem State.linkReport_applied {s : State} {r : Report} {good : Nat}
    (hkind : ∀ a t, r ≠ .attach a t) (hkind' : ∀ t, r ≠ .detach t) (hattached : s.attached = true)
    (hsource : (s.autoReturn r good).lst.source = .link) :
    s.linkReport r good = ((s.autoReturn r good).applyCurrent r).testCover := by
  have hattached' : (s.autoReturn r good).attached = true := by
    rw [← hattached, State.attached, State.attached, State.autoReturn_lst]
  cases r with
  | attach a t => exact absurd rfl (hkind a t)
  | detach t => exact absurd rfl (hkind' t)
  | _ => exact if_pos (by rw [hattached', hsource]; rfl)

theorem State.linkReport_ignored {s : State} {r : Report} {good : Nat}
    (hkind : ∀ a t, r ≠ .attach a t) (hkind' : ∀ t, r ≠ .detach t)
    (h : s.attached = false ∨ (s.autoReturn r good).lst.source = .posted) :
    s.linkReport r good = (s.autoReturn r good).countIgnored := by
  have hattached' : (s.autoReturn r good).attached = s.attached := by
    rw [State.attached, State.attached, State.autoReturn_lst]
  cases r with
  | attach a t => exact absurd rfl (hkind a t)
  | detach t => exact absurd rfl (hkind' t)
  | _ =>
    refine if_neg ?_
    rcases h with h | h <;> simp [hattached', h]

/-- The part of O15 that speaks of the tracker: each kind of report, as the record and the source stand. -/
theorem State.linkReport_cases (t : State) (good : Nat) :
    let ignored (u : State) : State := { u with lst := { u.lst with ignored := satAdd u.lst.ignored 1 } }
    let entered (u : State) (x : Sample) : State := (u.enterSample x).1.testCover
    let returned : State :=
      if t.config.autoReturn = true ∧ t.lst.source = .posted ∧ good = 3 then
        ({ t with lst := { t.lst with source := .link }, eu := t.posting [(.sourceChanged, 0x0100#16)] }).testCover
      else t
    (t.attached = false → ∀ (f : Half) (u : BitVec 12) (c : BitVec 2) (time : Word),
        t.linkReport (.detach time) good = ignored t ∧ t.linkReport (.converter c time) good = ignored t
          ∧ t.linkReport (.position f u time) good = ignored returned
          ∧ t.linkReport (.heartbeat time) good = ignored returned)
      ∧ ∀ r, t.lst.record = some r → r.presence = .attached →
          (∀ time, t.linkReport (.detach time) good =
            ({ t with
              lst := { t.lst with record := some { r with presence := .detached } }
              eu := t.posting [(.lensDetached, t.lst.epoch)] }).testCover)
          ∧ (returned.lst.source = .posted → ∀ (f : Half) (u : BitVec 12) (time : Word),
              t.linkReport (.position f u time) good = ignored returned
                ∧ t.linkReport (.heartbeat time) good = ignored returned)
          ∧ (t.lst.source = .posted → ∀ (c : BitVec 2) (time : Word),
              t.linkReport (.converter c time) good = ignored t)
          ∧ (returned.lst.source = .link → ∀ (f : Half) (u : BitVec 12) (time : Word),
              t.linkReport (.position f u time) good = entered returned ⟨time, f, u, r.converter, .link⟩)
          ∧ ∀ e, t.lst.timeline.getLast? = some e →
              (returned.lst.source = .link → ∀ time,
                t.linkReport (.heartbeat time) good = entered returned ⟨time, e.focal, e.focus, r.converter, .link⟩)
              ∧ (t.lst.source = .link → ∀ (c : BitVec 2) (time : Word),
                  let changed : State := { t with
                    lst := { t.lst with record := some { r with converter := c } }
                    eu := t.posting ((.converterChanged, c.setWidth 16) :: t.unprofiled r.lensId c) }
                  t.linkReport (.converter c time) good
                    = entered (if c = r.converter then t else changed) ⟨time, e.focal, e.focus, c, .link⟩) := by
  intro ignored entered returned
  have hposition : ∀ f u time, t.autoReturn (.position f u time) good = returned := fun f u time =>
    t.autoReturn_eq rfl good
  have hbeat : ∀ time, t.autoReturn (.heartbeat time) good = returned := fun time => t.autoReturn_eq rfl good
  have hconverter : ∀ c time, t.autoReturn (.converter c time) good = t := fun c time => t.autoReturn_other rfl good
  have hreturned : returned.lst = { t.lst with source := returned.lst.source } :=
    hbeat 0 ▸ t.autoReturn_lst (.heartbeat 0) good
  refine ⟨fun hnone f u c time => ⟨?_, ?_, ?_, ?_⟩, fun r hr hpresent => ?_⟩
  · exact if_neg (by simp [hnone])
  · rw [State.linkReport_ignored (by simp) (by simp) (.inl hnone), hconverter]
    rfl
  · rw [State.linkReport_ignored (by simp) (by simp) (.inl hnone), hposition]
    rfl
  · rw [State.linkReport_ignored (by simp) (by simp) (.inl hnone), hbeat]
    rfl
  have hattached : t.attached = true := (State.attached_iff hr).mpr hpresent
  have hrecord : returned.lst.record = some r := by rw [hreturned]; exact hr
  refine ⟨fun time => ?_, fun hposted f u time => ⟨?_, ?_⟩, fun hposted c time => ?_, fun hlink f u time => ?_,
    fun e he => ⟨fun hlink time => ?_, fun hlink c time => ?_⟩⟩
  · rw [← State.detach_eq hr]
    exact if_pos hattached
  · rw [State.linkReport_ignored (by simp) (by simp) (.inr (by rw [hposition]; exact hposted)), hposition]
    rfl
  · rw [State.linkReport_ignored (by simp) (by simp) (.inr (by rw [hbeat]; exact hposted)), hbeat]
    rfl
  · rw [State.linkReport_ignored (by simp) (by simp) (.inr (by rw [hconverter]; exact hposted)), hconverter]
    rfl
  · rw [State.linkReport_applied (by simp) (by simp) hattached (by rw [hposition]; exact hlink), hposition,
      State.applyCurrent, State.recordConverter_eq hrecord]
  · have hnewest : returned.lst.timeline.getLast? = some e := by rw [hreturned]; exact he
    rw [State.linkReport_applied (by simp) (by simp) hattached (by rw [hbeat]; exact hlink), hbeat, State.applyCurrent,
      State.heartbeat_eq hrecord hnewest]
  · rw [State.linkReport_applied (by simp) (by simp) hattached (by rw [hconverter]; exact hlink), hconverter,
      State.applyCurrent, State.converterReport_eq hr he, State.changeConverter_eq hr]

end Sys2Proof.Machine
end

section
/-! PROOFS. An intact frame of the lens link: its numbers, its sequence check and its report (R54 to R62): O15. -/

namespace Sys2Proof.Machine

/-! ### The numbers of a frame (R56, R58) -/

theorem part_pair (payload : List Byte) {a : Nat} (h : a + 1 < payload.length) :
    part payload a 2 = [payload.getD a 0, payload.getD (a + 1) 0] := by
  rw [part, List.drop_eq_getElem_cons (by omega), List.drop_eq_getElem_cons h, List.getD_eq_getElem _ _ (by omega),
    List.getD_eq_getElem _ _ h]
  rfl

/-- Two bytes of a payload with the CHECK byte behind it. -/
theorem half_part_append {payload : List Byte} (tail : List Byte) {a : Nat} (h : a + 1 < payload.length) :
    half (part (payload ++ tail) a 2) = payload.getD a 0 ++ payload.getD (a + 1) 0 := by
  rw [part_pair (payload ++ tail) (by rw [List.length_append]; omega), half_pair,
    List.getD_append _ _ _ _ (by omega), List.getD_append _ _ _ _ h]

theorem word_quad (a b c d : Byte) : word [a, b, c, d] = (a ++ b) ++ (c ++ d) := by
  apply BitVec.eq_of_toNat_eq
  have hab := toNat_append_byte a b
  have hcd := toNat_append_byte c d
  have hlt : (c ++ d).toNat < 2 ^ 16 := (c ++ d).isLt
  have ha := a.isLt
  have hb := b.isLt
  have hc := c.isLt
  have hd := d.isLt
  rw [BitVec.toNat_append, ← Nat.shiftLeft_add_eq_or_of_lt hlt, Nat.shiftLeft_eq, hab, hcd]
  simp only [word, natOfBytes, List.foldl_cons, List.foldl_nil, BitVec.toNat_ofNat]
  omega

theorem word_part_append {payload : List Byte} (tail : List Byte) (h : 3 < payload.length) :
    word (part (payload ++ tail) 0 4)
      = (payload.getD 0 0 ++ payload.getD 1 0) ++ (payload.getD 2 0 ++ payload.getD 3 0) := by
  match payload, h with
  | a :: b :: c :: d :: rest, _ => exact word_quad a b c d

/-- The low four bits of the first byte are the sequence number, the high four the type (R56, R57). -/
theorem extractLsb'_low_nibble (head : Byte) : head.extractLsb' 0 4 = BitVec.ofNat 4 head.toNat := by
  apply BitVec.eq_of_toNat_eq
  simp

theorem extractLsb'_high_nibble_toNat (head : Byte) : (head.extractLsb' 4 4).toNat = head.toNat / 16 := by
  have h := head.isLt
  rw [BitVec.extractLsb'_toNat, Nat.shiftRight_eq_div_pow]
  omega

/-! ### The sequence check and the two ends of a frame (R56, R57, R60 to R62) -/

def gapEvents (gap : Nat) : List (EventKind × Half) :=
  if gap = 0 then [] else [(.linkGap, BitVec.ofNat 16 gap)]

theorem State.takeSequence_eq (s : State) (seq : BitVec 4) :
    s.takeSequence seq =
      { s with
        llr := { s.llr with
          rx := .idle
          frame := []
          byteTimer := none
          errorRun := 0
          expected := some (seq + 1)
          gaps := satAdd s.llr.gaps (sequenceGap s.llr.expected seq) }
        eu := s.posting (gapEvents (sequenceGap s.llr.expected seq)) } := by
  unfold State.takeSequence gapEvents
  by_cases hgap : sequenceGap s.llr.expected seq = 0
  · simp only [hgap, if_true]
    rfl
  · simp only [hgap, if_false]
    rfl

theorem goodAfter_eq (good : Nat) (r : Report) (gap : Nat) :
    goodAfter good r gap = if r.bearsPosition = true then (if gap = 0 then min 3 (good + 1) else 1) else good := rfl

/-- A valid frame hands its report to the tracker with the link fresh. -/
theorem State.validFrame_eq (s : State) (r : Report) (gap : Nat) :
    s.validFrame r gap =
      (let good := goodAfter s.llr.good r gap
       let heard (eu : EventUnit) : State := { s with
         llr := { s.llr with
           good := good
           fresh := true
           freshTimer := some (s.time + BitVec.ofNat 32 (1000 * s.config.linkSilence.toNat)) }
         eu := eu }
       (if s.llr.fresh = true then heard s.eu
         else (heard (s.posting [(.linkRestored, 0)])).testCover).linkReport r good) := by
  unfold State.validFrame
  by_cases hfresh : s.llr.fresh = true
  · simp only [hfresh, if_true]
    rfl
  · simp only [hfresh]
    rfl

theorem State.intactFrame_malformed {s : State} {head len : Byte} {rest : List Byte}
    (h : readReport (head.toNat / 16) len.toNat rest s.time = none) :
    s.intactFrame (head :: len :: rest) = (s.takeSequence (BitVec.ofNat 4 head.toNat)).malformedFrame := by
  have hread : readReport (head.extractLsb' 4 4).toNat len.toNat rest (s.takeSequence (head.extractLsb' 0 4)).time
      = none := by
    rw [extractLsb'_high_nibble_toNat, State.takeSequence_eq]
    exact h
  simp only [State.intactFrame, List.getD_cons_zero, List.getD_cons_succ, List.drop_succ_cons, List.drop_zero, hread]
  rw [extractLsb'_low_nibble]

theorem State.intactFrame_valid {s : State} {head len : Byte} {rest : List Byte} {r : Report}
    (h : readReport (head.toNat / 16) len.toNat rest s.time = some r) :
    s.intactFrame (head :: len :: rest)
      = (s.takeSequence (BitVec.ofNat 4 head.toNat)).validFrame r
          (sequenceGap s.llr.expected (BitVec.ofNat 4 head.toNat)) := by
  have hread : readReport (head.extractLsb' 4 4).toNat len.toNat rest (s.takeSequence (head.extractLsb' 0 4)).time
      = some r := by
    rw [extractLsb'_high_nibble_toNat, State.takeSequence_eq]
    exact h
  simp only [State.intactFrame, List.getD_cons_zero, List.getD_cons_succ, List.drop_succ_cons, List.drop_zero, hread]
  rw [extractLsb'_low_nibble]

/-- A CHECK byte that makes the sum of the frame 0. -/
theorem exec_linkByte_intact {s : State} {head len b : Byte} {payload : List Byte} (hbusy : s.cp.initBusy = false)
    (hrx : s.llr.rx = .inFrame) (hframe : s.llr.frame = head :: len :: payload) (hlen : payload.length = len.toNat)
    (hsum : (head :: len :: (payload ++ [b])).foldl (· + ·) 0 = 0) :
    exec (.linkByte b) s = .next (s.clearBits.intactFrame (head :: len :: (payload ++ [b]))) := by
  have hcheck : isCheckByte s.clearBits.llr.frame = true := by
    show isCheckByte s.llr.frame = true
    rw [hframe, isCheckByte_cons]
    exact decide_eq_true hlen
  rw [exec_linkByte, State.receiveByte_inFrame (s := s.clearBits) hbusy hrx, State.byteInFrame_check hcheck,
    show s.clearBits.llr.frame ++ [b] = head :: len :: (payload ++ [b]) from congrArg (· ++ [b]) hframe,
    if_pos ((sumIsZero_iff _).mpr hsum)]

/-! ### The reports of the frame types (R57 to R59) -/

section
variable {len b : Byte} {payload : List Byte} (hlen : payload.length = len.toNat) (now : Word)
include hlen

theorem readReport_of_attach (h : len = 15)
    (hlow : 1 ≤ (payload.getD 6 0 ++ payload.getD 7 0).toNat)
    (hhigh : (payload.getD 6 0 ++ payload.getD 7 0).toNat ≤ (payload.getD 8 0 ++ payload.getD 9 0).toNat) :
    readReport 1 len.toNat (payload ++ [b]) now =
      some (.attach
        { lensId := (payload.getD 0 0 ++ payload.getD 1 0) ++ (payload.getD 2 0 ++ payload.getD 3 0)
          firmware := payload.getD 4 0 ++ payload.getD 5 0
          focalMin := payload.getD 6 0 ++ payload.getD 7 0
          focalMax := payload.getD 8 0 ++ payload.getD 9 0
          converter := (payload.getD 10 0).extractLsb' 0 2
          focal := payload.getD 11 0 ++ payload.getD 12 0
          focus := clampFocus (payload.getD 13 0 ++ payload.getD 14 0) } now) := by
  subst h
  have h15 : payload.length = 15 := hlen
  have hhalf : ∀ a, a + 1 < 15 → half (part (payload ++ [b]) a 2) = payload.getD a 0 ++ payload.getD (a + 1) 0 :=
    fun a ha => half_part_append [b] (h15 ▸ ha)
  simp only [readReport, hhalf 6 (by decide), hhalf 8 (by decide)]
  rw [if_pos ⟨trivial, rfl⟩, if_pos ⟨hlow, hhigh⟩, hhalf 4 (by decide), hhalf 11 (by decide), hhalf 13 (by decide),
    word_part_append [b] (by omega), List.getD_append _ _ _ 10 (by omega)]
  rfl

theorem readReport_of_position (h : len = 6) :
    readReport 2 len.toNat (payload ++ [b]) now =
      some (.position (payload.getD 0 0 ++ payload.getD 1 0) (clampFocus (payload.getD 2 0 ++ payload.getD 3 0))
        (now - (payload.getD 4 0 ++ payload.getD 5 0).setWidth 32)) := by
  subst h
  have h6 : payload.length = 6 := hlen
  unfold readReport
  dsimp only
  rw [if_neg (by simp), if_pos ⟨rfl, rfl⟩, half_part_append [b] (by omega),
    half_part_append [b] (by omega), half_part_append [b] (by omega)]

theorem readReport_of_converter (h : len = 3) :
    readReport 3 len.toNat (payload ++ [b]) now =
      some (.converter ((payload.getD 0 0).extractLsb' 0 2)
        (now - (payload.getD 1 0 ++ payload.getD 2 0).setWidth 32)) := by
  subst h
  have h3 : payload.length = 3 := hlen
  unfold readReport
  dsimp only
  rw [if_neg (by simp), if_neg (by simp), if_pos ⟨rfl, rfl⟩, half_part_append [b] (by omega),
    List.getD_append _ _ _ 0 (by omega)]
  rfl

theorem readReport_of_detach (h : len = 2) :
    readReport 4 len.toNat (payload ++ [b]) now =
      some (.detach (now - (payload.getD 0 0 ++ payload.getD 1 0).setWidth 32)) := by
  subst h
  have h2 : payload.length = 2 := hlen
  unfold readReport
  dsimp only
  rw [if_neg (by simp), if_neg (by simp), if_neg (by simp), if_pos ⟨rfl, rfl⟩,
    half_part_append [b] (by omega)]

theorem readReport_of_heartbeat (h : len = 2) :
    readReport 5 len.toNat (payload ++ [b]) now =
      some (.heartbeat (now - (payload.getD 0 0 ++ payload.getD 1 0).setWidth 32)) := by
  subst h
  have h2 : payload.length = 2 := hlen
  unfold readReport
  dsimp only
  rw [if_neg (by simp), if_neg (by simp), if_neg (by simp), if_neg (by simp), if_pos ⟨rfl, rfl⟩,
    half_part_append [b] (by omega)]

/-- Every other frame is malformed. -/
theorem readReport_of_malformed {type : Nat}
    (hattach : ¬ (type = 1 ∧ len = 15 ∧ 1 ≤ (payload.getD 6 0 ++ payload.getD 7 0).toNat
      ∧ (payload.getD 6 0 ++ payload.getD 7 0).toNat ≤ (payload.getD 8 0 ++ payload.getD 9 0).toNat))
    (hposition : ¬ (type = 2 ∧ len = 6)) (hconverter : ¬ (type = 3 ∧ len = 3)) (hdetach : ¬ (type = 4 ∧ len = 2))
    (hbeat : ¬ (type = 5 ∧ len = 2)) :
    readReport type len.toNat (payload ++ [b]) now = none := by
  have hnum : ∀ {n : Nat} {x : Byte}, x.toNat = n → len.toNat = n → len = x := fun hx h =>
    BitVec.eq_of_toNat_eq (h.trans hx.symm)
  unfold readReport
  dsimp only
  by_cases h15 : type = 1 ∧ len.toNat = 15
  · have h : len = 15 := hnum rfl h15.2
    have hlength : payload.length = 15 := hlen.trans h15.2
    rw [if_pos h15, half_part_append [b] (by omega), half_part_append [b] (by omega)]
    exact if_neg fun hrange => hattach ⟨h15.1, h, hrange⟩
  · rw [if_neg h15, if_neg fun h => hposition ⟨h.1, hnum rfl h.2⟩, if_neg fun h => hconverter ⟨h.1, hnum rfl h.2⟩,
      if_neg fun h => hdetach ⟨h.1, hnum rfl h.2⟩, if_neg fun h => hbeat ⟨h.1, hnum rfl h.2⟩]

end

/-- Settles O15: the frame's numbers, the sequence check, then the report handed to the tracker. -/
theorem intactFrameIsCheckedInSequence : Obligations.IntactFrameIsCheckedInSequence := by
  refine ⟨?_, fun t good => ?_⟩
  · intro s head len b payload hbusy hrx hframe hlen hsum type seq gap byte pair code focus sampleTime attaches
      positions converts detaches beats good events received taken heard reports
    have hexec := exec_linkByte_intact hbusy hrx hframe hlen hsum
    have hgap : sequenceGap s.llr.expected seq = gap := by
      unfold sequenceGap
      rfl
    have hage : ∀ x : Half, x.setWidth 32 = BitVec.ofNat 32 x.toNat := fun x => BitVec.eq_of_toNat_eq (by simp)
    have hvalid : ∀ {r : Report}, readReport type len.toNat (payload ++ [b]) s.time = some r →
        goodAfter s.llr.good r gap = good → reports r := by
      intro r hr hgood
      show exec _ _ = _
      rw [hexec, State.intactFrame_valid (s := s.clearBits) hr, State.takeSequence_eq, State.validFrame_eq,
        show sequenceGap s.clearBits.llr.expected _ = gap from hgap]
      refine congrArg Host.Outcome.next ?_
      dsimp only
      rw [show goodAfter s.clearBits.llr.good r gap = good from hgood]
      refine congrArg (fun u : State => u.linkReport r good) ?_
      by_cases hfresh : s.llr.fresh = true
      · exact (if_pos hfresh).trans ((congrArg (fun es => ({ taken [] with eu := s.posting es } : State))
          (List.append_nil events).symm).trans (if_pos hfresh).symm)
      · refine (if_neg hfresh).trans (Eq.trans ?_ (if_neg hfresh).symm)
        exact congrArg (fun eu => ({ taken [] with eu := eu } : State).testCover)
          (State.posting_append s events [(.linkRestored, 0)]).symm
    have hother : type ≠ 2 → type ≠ 5 → good = s.llr.good := fun h2 h5 => if_neg (not_or.mpr ⟨h2, h5⟩)
    refine ⟨fun hbad => ?_, fun h => ?_, fun h => ?_, fun h => ?_, fun h => ?_, fun h => ?_⟩
    · simp only [not_or] at hbad
      obtain ⟨hattach, hposition, hconverter, hdetach, hbeat⟩ := hbad
      rw [hexec, State.intactFrame_malformed (s := s.clearBits)
        (readReport_of_malformed hlen s.time hattach hposition hconverter hdetach hbeat), State.takeSequence_eq,
        show sequenceGap s.clearBits.llr.expected _ = gap from hgap]
      rfl
    · obtain ⟨htype, h15, hlow, hhigh⟩ := h
      refine hvalid (htype.symm ▸ readReport_of_attach hlen s.time h15 hlow hhigh) ?_
      exact (hother (by omega) (by omega)).symm
    · have hread := readReport_of_position (b := b) hlen s.time h.2
      rw [hage] at hread
      exact hvalid (h.1.symm ▸ hread) (if_pos (.inl h.1)).symm
    · have hread := readReport_of_converter (b := b) hlen s.time h.2
      rw [hage] at hread
      exact hvalid (h.1.symm ▸ hread) (hother (by omega) (by omega)).symm
    · have hread := readReport_of_detach (b := b) hlen s.time h.2
      rw [hage] at hread
      exact hvalid (h.1.symm ▸ hread) (hother (by omega) (by omega)).symm
    · have hread := readReport_of_heartbeat (b := b) hlen s.time h.2
      rw [hage] at hread
      exact hvalid (h.1.symm ▸ hread) (if_pos (.inr h.1)).symm
  · obtain ⟨hignored, hrecord⟩ := t.linkReport_cases good
    exact ⟨fun a time h => congrArg Prod.fst (t.attach_eq h time .link), hignored, hrecord⟩

end Sys2Proof.Machine
end

section
/-! PROOFS. The front command: O9; POWER_ON, PIN_RESET and the held part (R168): O10; INIT_BUSY's clearing (R167): O11;
the state after reset: O54. -/

namespace Sys2Proof.Machine

/-- Settles O9. -/
theorem stepRunsTheFrontCommand : Obligations.StepRunsTheFrontCommand := fun _ _ _ => rfl

/-- Settles O11: `execInitBusyClear` in its two cases. -/
theorem initBusyClearPostsResetDone : Obligations.InitBusyClearPostsResetDone := by
  refine fun s => ⟨fun hold hbusy => ?_, fun h => ?_⟩
  · show Host.Outcome.next _ = _
    rw [State.unlessHeld_released hold, if_pos hbusy]
    rfl
  · show Host.Outcome.next _ = _
    rcases h with hclear | hheld
    · rw [if_neg (by simp [hclear]), State.unlessHeld, ite_self]
    · rw [State.unlessHeld_held hheld]

/-! ### The part held in a reset (R168) -/

/-- A term that names an event of the part has a next state. -/
theorem exec_next_of_wellFormed {c : Instr} (h : c.wellFormed = true) (s : State) : ∃ t, exec c s = .next t := by
  cases c with
  | linkRunt bits => exact ⟨_, if_pos h⟩
  | itemWriteIgnored a v => exact ⟨_, if_pos h⟩
  | _ => exact ⟨_, rfl⟩

section
variable {s : State} (hold : s.cp.hold ≠ .released) (hhalted : s.Halted)
include hold hhalted

theorem State.pins_held :
    s.notifyAsserted = false ∧ (∀ csnLow, s.drivesMiso csnLow = false)
      ∧ ∀ p, s.requestReady p = false ∧ s.meshValid p = false := by
  obtain ⟨hbusy, -, -, hfifo⟩ := hhalted
  refine ⟨by simp [State.notifyAsserted, hbusy], fun csnLow => by simp [State.drivesMiso, hold], fun p => ⟨?_, ?_⟩⟩
  · simp [State.requestReady, hbusy]
  · simp [State.meshValid, hfifo p]

variable (hrest : s.AtRest)
include hrest

/-- A part held in a reset takes no command but the two resets. -/
theorem exec_held {c : Instr} {t : State} (h : exec c s = .next t) (hpower : c ≠ .powerOn) (hpin : c ≠ .pinReset) :
    t = s := by
  obtain ⟨hbusy, -, -, hfifo⟩ := hhalted
  have hempty : ∀ p, s.setPort p { s.port p with fifo := (s.port p).fifo.drop 1 } = s := by
    intro p
    rw [hfifo p, List.drop_nil, ← hfifo p]
    exact State.setPort_port s p
  cases c with
  | powerOn => exact absurd rfl hpower
  | pinReset => exact absurd rfl hpin
  | wordTaken p => exact (Host.Outcome.next.inj h).symm.trans (hempty p)
  | initBusyClear => exact (Host.Outcome.next.inj h).symm.trans (State.unlessHeld_held hold _)
  | eventPop ph => exact (Host.Outcome.next.inj h).symm.trans (State.unlessHeld_held hold _)
  | summary ph => exact (Host.Outcome.next.inj h).symm.trans (State.unlessHeld_held hold _)
  | mailboxFlags v => exact (Host.Outcome.next.inj h).symm.trans (State.unlessHeld_held hold _)
  | mailboxSelect v => exact (Host.Outcome.next.inj h).symm.trans (State.unlessHeld_held hold _)
  | mailboxDataWrite b => exact (Host.Outcome.next.inj h).symm.trans (State.unlessHeld_held hold _)
  | mailboxDataRead => exact (Host.Outcome.next.inj h).symm.trans (State.unlessHeld_held hold _)
  | _ =>
    refine exec_atRest hbusy hrest h hpower hpin Instr.noConfusion ?_ fun p => Instr.noConfusion
    first | exact .inl rfl | exact .inr (Option.some_ne_none _)

/-- Nothing of its own is due to a part held in a reset. -/
theorem State.dueEvents_held : s.dueEvents = [] := by
  obtain ⟨hbusy, -, -, -⟩ := hhalted
  have hgrant := hrest.grantPort
  obtain ⟨-, hllr, hlst, htsu, -, hme, -, -, -, -, hports⟩ := hrest
  have hcommand : s.commandDue = none := by simp [State.commandDue, State.commandReady, hbusy]
  have hloss : ∀ p, s.lossDue p = false := fun p => by
    cases p <;> simp [State.lossDue, htsu, PerPort.get, StrobeUnit.reset]
  have hwaits : ∀ p, s.waitsDue p = [] := fun p => by
    obtain ⟨-, -, hslots, -⟩ := hports p
    simp [State.waitsDue, hslots]
  have hmove : ∀ p, s.mayMove p = false := fun p => by
    obtain ⟨-, -, -, hreplies, -⟩ := hports p
    simp [State.mayMove, hreplies]
  simp [State.dueEvents_eq, dueIf, State.initDone, hold, hcommand, hllr, LinkReceiver.reset, hlst, Tracker.reset, hloss,
    hwaits, hmove, hgrant, State.unitFits, State.stallDue, hme, Engine.reset]

theorem step_held (hpending : s.pending = []) : step s = .next s := by
  rw [step_of_quiet hpending (State.dueEvents_held hold hhalted hrest), State.tick, State.unlessHeld_held hold]

end

/-- Settles O10: each reset command by how far it goes, then the held part. -/
theorem powerOnAndPinResetLeaveTheResetState : Obligations.PowerOnAndPinResetLeaveTheResetState := by
  unfold Obligations.PowerOnAndPinResetLeaveTheResetState
  intro stopped template port state opened
  refine ⟨fun s rest => ?_, fun s hphases => ?_, rfl, fun hold cause freeIndex phases pending hheld => ?_⟩
  · refine ⟨rfl, rfl, rfl, rfl, rfl, ?_⟩
    show Host.Outcome.next (if s.cp.hold = .powerOn then _ else _) = _
    cases s.cp.hold <;> rfl
  · have htake : s.takePhase = (.whole, s) := by
      refine Prod.ext ?_ ?_
      · simp [State.takePhase, hphases]
      · show ({ s with resetPhases := s.resetPhases.tail } : State) = s
        rw [hphases, List.tail_nil, ← hphases]
    refine ⟨?_, ?_⟩
    · show execPowerOn s = _
      rw [execPowerOn, htake]
      show Host.Outcome.next (s.wholeReset .powerOn) = _
      rw [State.wholeReset, hphases]
      rfl
    · show execPinReset s = _
      rw [execPinReset, htake]
      show Host.Outcome.next (if s.cp.hold = .powerOn then s else s.wholeReset .pin) = _
      rw [State.wholeReset, hphases]
      rfl
  · intro h
    have hhalted : h.Halted := ⟨rfl, rfl, rfl, fun p => by cases p <;> rfl⟩
    have hrest : h.AtRest := State.afterReset_atRest cause []
    refine ⟨fun c hpower hpin hwell => ?_, ?_, State.pins_held hheld hhalted⟩
    · obtain ⟨t, ht⟩ := exec_next_of_wellFormed hwell h
      rw [ht, exec_held hheld hhalted hrest ht hpower hpin]
    · exact step_held (s := { h with pending := [] }) hheld hhalted hrest rfl

theorem Engine.reset_sound : Engine.reset.sound := ⟨Nat.zero_le _, fun _ h => nomatch h⟩

theorem State.reset_port (p : Port) : State.reset.port p = MeshPort.reset [0x50000000#32, 0#32] := by
  cases p <;> rfl

theorem State.reset_slots (p : Port) : (State.reset.port p).slots = [] := by rw [State.reset_port]; rfl

theorem State.reset_fifo (p : Port) : (State.reset.port p).fifo.length = 2 := by rw [State.reset_port]; rfl

theorem State.reset_portSound (p : Port) : State.reset.portSound p := by
  refine ⟨?_, ?_, ?_, ?_, ?_⟩
  · rw [State.reset_slots]
    exact List.nodup_nil
  · rw [State.reset_port]
    decide
  · rw [State.reset_port]
    exact Nat.zero_le _
  · exact fun r hr => absurd (State.reset_slots p ▸ hr) List.not_mem_nil
  · rw [show State.reset.me.mesh = none from rfl, State.reset_slots]
    exact fun _ hx => absurd hx List.not_mem_nil

/-- Settles O54: each law at the reset state. -/
theorem resetStateIsSound : Obligations.ResetStateIsSound := by
  refine ⟨by decide, ConfigSet.reset_inRange, Nat.zero_le _, Engine.reset_sound, LinkReceiver.reset_sound, ?_, ?_,
    ?_, ProfileStore.cleared_profilesSound, ?_, State.quietInit_of_rest rfl (State.afterReset_atRest _ _), fun p => ?_⟩
  · exact StrobeUnit.reset_sound
  · exact StrobeUnit.reset_sound
  · exact Tracker.reset_sound
  · exact State.storeSound_of_reset rfl rfl rfl
  · exact ⟨State.reset_portSound p, ⟨State.reset_fifo p ▸ by decide, fun h => Bool.noConfusion h⟩,
      show (State.reset.port p).Configured State.reset.config from
        State.reset_port p ▸ MeshPort.reset_configured _ _⟩

end Sys2Proof.Machine
end

section
/-! PROOFS. The mesh engine: the release with the pending store operation and the stall (R156 to R158): O34; units,
rows and the trailer (R152 to R155): O32; the grant (R149 to R151): O33. -/

namespace Sys2Proof.Machine

/-! ### The release (R28, R156) -/

theorem appliedParam_commit (g : Byte) (k : Fin 16) : appliedParam g false k = g ++ 0#4 ++ BitVec.ofNat 4 k.val :=
  congrArg (· ++ BitVec.ofNat 4 k.val) (BitVec.append_assoc (x₁ := g) (x₂ := 0#3) (x₃ := 0#1))

/-- A commit applied (R34, R36). -/
theorem State.applyCommit_eq (s : State) (k : Fin 16) (c : Staged) :
    s.applyCommit k c =
      { s with
        store := { s.store with
          slots := s.store.slots.set k ⟨s.generation k + 1, some c.profile⟩, staging := .closed, pendingOp := none }
        eu := s.posting [(.profileApplied, (s.generation k + 1) ++ 0#4 ++ BitVec.ofNat 4 k.val)] } := by
  rw [← appliedParam_commit]
  rfl

section
variable (s : State) (p : Port) (j : Fin 4)

/-- The slot freed and the engine idle, before the store's part of a release. -/
def State.freed : State :=
  { s with
    ports := s.ports.set p { s.port p with slots := (s.port p).slots.filter fun x => x.slot != j }
    me := { s.me with mesh := none } }

theorem State.freed_set (q : MeshPort) :
    ({ s with ports := s.ports.set p q } : State).freed p j =
      { s with
        ports := s.ports.set p { q with slots := q.slots.filter fun x => x.slot != j }
        me := { s.me with mesh := none } } := by
  have hport : ({ s with ports := s.ports.set p q } : State).port p = q := s.ports.get_set p q
  rw [State.freed, hport]
  exact congrArg (fun ports => ({ s with ports := ports, me := { s.me with mesh := none } } : State))
    (s.ports.set_set p q _)

variable {s}

theorem State.release_idle (h : s.store.pendingOp = none) :
    s.release p j = { s.freed p j with store := { s.store with boundSlot := none } } := by
  rw [State.release, State.releaseStore_idle (s := s.setPort p ((s.port p).free j)) h]
  rfl

theorem State.release_commit {k : Fin 16} {c : Staged} (hop : s.store.pendingOp = some (.commit k))
    (hbound : s.store.boundSlot = some k) (hstaging : s.store.staging = .committing c) :
    s.release p j =
      { s.freed p j with
        store := { slots := s.store.slots.set k ⟨s.generation k + 1, some c.profile⟩, staging := .closed
                   pendingOp := none, boundSlot := none }
        eu := s.posting [(.profileApplied, (s.generation k + 1) ++ 0#4 ++ BitVec.ofNat 4 k.val)] } := by
  rw [State.release, State.releaseStore_commit (s := s.setPort p ((s.port p).free j)) hop hbound hstaging,
    State.applyCommit_eq]
  rfl

theorem State.release_delete {k : Fin 16} (hop : s.store.pendingOp = some (.delete k))
    (hbound : s.store.boundSlot = some k) :
    s.release p j =
      { s.freed p j with
        store := { slots := s.store.slots.set k ⟨s.generation k, none⟩, staging := s.store.staging
                   pendingOp := none, boundSlot := none }
        lst := { s.lst with override := if s.lst.override = some k then none else s.lst.override }
        eu := s.posting [(.profileApplied, s.generation k ++ 0x1#4 ++ BitVec.ofNat 4 k.val)] } := by
  rw [State.release, State.releaseStore_delete (s := s.setPort p ((s.port p).free j)) hop hbound,
    ← appliedParam_delete]
  rfl

end

/-! ### The stall (R157, R158) -/

theorem exec_stallExpiry {s : State} {m : Mesh} (h : s.me.mesh = some m) :
    exec .stallExpiry s =
      .next (if reached s.time m.stallTimer && !s.fits m.port m.unit then s.closeMesh m .abandoned else s) := by
  show execStallExpiry s = _
  rw [execStallExpiry, h]

theorem State.closeMesh_abandoned (s : State) (m : Mesh) :
    s.closeMesh m .abandoned =
      ({ s with
        ports := s.ports.set m.port { s.port m.port with fifo := (s.port m.port).fifo ++ trailer m .abandoned }
        eu := s.posting [(.meshAbandoned,
          BitVec.ofBool (m.port == Port.mp1) ++ 0#7 ++ m.request.fields.tag.setWidth 8)] }).release m.port
        m.request.slot := by
  rw [← portParam_eq]
  rfl

/-- Settles O34: the release by the pending operation, then the stall timer's cases. -/
theorem stallExpiryAbandonsAndReleases : Obligations.StallExpiryAbandonsAndReleases := by
  refine ⟨fun s p j => ⟨State.release_idle p j, fun k c => State.release_commit p j, fun k => State.release_delete p j⟩,
    fun s m hmesh => ?_⟩
  intro q side trailer closed
  have hfits := s.fits_iff m.port m.unit
  rw [exec_stallExpiry hmesh]
  refine ⟨fun x htimer hpast hfull => ?_, fun hroom => ?_, fun x htimer hfuture => ?_, fun htimer => ?_⟩
  · have hno : ¬ s.fits m.port m.unit = true := by rw [hfits]; exact Nat.not_le.mpr hfull
    rw [if_pos (by simp [reached_of_some htimer hpast, hno]), State.closeMesh_abandoned]
    rfl
  · rw [if_neg (by simp [hfits.mpr hroom])]
  · rw [if_neg (by simp [not_reached_of_some htimer hfuture])]
  · rw [if_neg (by simp [htimer])]

/-! ### Units (R152, R153, R155) -/

theorem exec_unitPlace {s : State} {m : Mesh} (h : s.me.mesh = some m) :
    exec .unitPlace s = .next (if s.fits m.port m.unit then s.placeUnit m else s) := by
  show execUnitPlace s = _
  rw [execUnitPlace, h]

theorem Mesh.placed_eq (m : Mesh) :
    m.placed =
      { m with
        cursor := if m.unit.isRow then m.cursor + 1 else m.cursor
        nodes := if m.unit.isRow then m.nodes + m.request.nc else m.nodes
        saturated := if m.unit.isRow then m.saturated + m.unit.saturated else m.saturated
        flagged := if m.unit.isRow ∧ m.unit.flagged then m.flagged + 1 else m.flagged
        stallTimer := none } := by
  unfold Mesh.placed
  by_cases hrow : m.unit.isRow = true
  · by_cases hflag : m.unit.flagged = true <;> simp [hrow, hflag]
  · simp [hrow]

/-- A unit placed before the last row: the next row is reached. -/
theorem State.placeUnit_next {s : State} {m : Mesh} (h : m.placed.cursor < m.request.nr) :
    s.placeUnit m =
      (let q := s.port m.port
       let next : Mesh := { m.placed with epochChanged := m.epochChanged || s.lst.epoch != m.epoch }
       let u := s.rowUnit next
       { s with
        ports := s.ports.set m.port { q with fifo := q.fifo ++ m.unit.words }
        me := { s.me with
          mesh := some { next with
            unit := u
            stallTimer :=
              if q.fifo.length + m.unit.words.length + u.words.length ≤ 1021 then none
              else some (s.time + BitVec.ofNat 32 (1000 * m.stallLimit.toNat)) } } }) := by
  have hplaced := m.placed_frame
  obtain ⟨hport, hrequest, -, hepoch, -, hlimit, hchanged, -, -⟩ := hplaced
  rw [State.placeUnit_eq, if_pos h, State.reachRow, State.holdUnit]
  dsimp only
  have hroom : ∀ u : MeshUnit, (s.push m.port m.unit.words).fits m.port u = true
      ↔ (s.port m.port).fifo.length + m.unit.words.length + u.words.length ≤ 1021 := fun u => by
    rw [State.fits_iff, State.push, State.port_setPort, List.length_append]
  simp only [hport, hepoch, hlimit, hchanged, hroom]
  rfl

/-- A unit placed after the last row: the trailer and the release. -/
theorem State.placeUnit_last {s : State} {m : Mesh} (h : m.request.nr ≤ m.placed.cursor) :
    s.placeUnit m =
      ({ s with
        ports := s.ports.set m.port
          { s.port m.port with
            fifo := (s.port m.port).fifo ++ m.unit.words
              ++ trailer m.placed (if m.epochChanged then .lensChanged else .complete) } }).release
        m.port m.request.slot := by
  obtain ⟨hport, hrequest, -⟩ := m.placed_frame
  rw [State.placeUnit_eq, if_neg (Nat.not_lt.mpr h), State.closeMesh, hport, hrequest, if_neg (by split <;> simp),
    State.push, State.push, State.setPort_setPort, State.port_setPort]
  rfl

theorem MeshStatus.code_ended (b : Bool) :
    BitVec.ofNat 2 (if b then MeshStatus.lensChanged else .complete).code = if b then 1#2 else 0#2 := by
  cases b <;> rfl

/-- Settles O32: a unit that does not fit, one that fits before the last row, and one after it. -/
theorem unitIsPlacedWholeOnceItFits : Obligations.UnitIsPlacedWholeOnceItFits := by
  intro s m q done next u trailer' hmesh
  have hdone : m.placed = done := m.placed_eq
  have hfits := s.fits_iff m.port m.unit
  have htrailer : trailer m.placed (if m.epochChanged then .lensChanged else .complete) = trailer' := by
    rw [trailer, MeshStatus.code_ended, hdone]
  rw [exec_unitPlace hmesh]
  have hlast : q.fifo.length + m.unit.words.length ≤ 1021 → m.request.nr ≤ done.cursor →
      (if s.fits m.port m.unit then s.placeUnit m else s)
        = ({ s with ports := s.ports.set m.port { q with fifo := q.fifo ++ m.unit.words ++ trailer' } }).release
            m.port m.request.slot := fun hroom hend => by
    rw [if_pos (hfits.mpr hroom), State.placeUnit_last (hdone ▸ hend), htrailer]
  refine ⟨fun hfull => ?_, fun hroom hmore => ?_, fun hroom hend hidle => ?_, fun hroom hend => ?_⟩
  · rw [if_neg (by rw [hfits]; exact Nat.not_le.mpr hfull)]
  · rw [if_pos (hfits.mpr hroom), State.placeUnit_next (hdone ▸ hmore), hdone]
  · rw [hlast hroom hend, State.release_idle _ _ (by exact hidle), State.freed_set]
  · rw [hlast hroom hend]

/-! ### The grant (R149 to R151) -/

theorem exec_grant_head {s : State} {p : Port} {r : Request} {rest : List Request} (hgrant : s.grantPort = some p)
    (hslots : (s.port p).slots = r :: rest) : exec .grant s = .next (s.grantHead p r) := by
  have hhead : (s.port p).head? = some r := congrArg List.head? hslots
  show execGrant s = _
  simp only [execGrant, hgrant, hhead]

theorem bindRefusal_none {f : RequestFields} {b : Binding}
    (hgen : ∀ k, b.slot = some k → f.strictGen = true → f.expectedGen = b.generation)
    (hprofile : b.slot = none → f.requireProfile = false) : bindRefusal f b = none := by
  unfold bindRefusal
  cases hslot : b.slot with
  | none => simp [hprofile hslot]
  | some k => simpa using hgen k hslot

theorem bindRefusal_gen {f : RequestFields} {b : Binding} {k : Fin 16} (hslot : b.slot = some k)
    (hstrict : f.strictGen = true) (hgen : f.expectedGen ≠ b.generation) :
    bindRefusal f b = some (.genMismatch, b.generation) := by
  simp [bindRefusal, hslot, hstrict, hgen]

theorem bindRefusal_noProfile {f : RequestFields} {b : Binding} (hslot : b.slot = none)
    (hrequire : f.requireProfile = true) : bindRefusal f b = some (.noProfile, 0) := by
  simp [bindRefusal, hslot, hrequire]

/-- The state of a grant once the arbiter and the bind are recorded. -/
def State.bound (s : State) (p : Port) (b : Binding) : State :=
  { s with me := s.me.granted p, store := { s.store with boundSlot := b.slot } }

/-- A grant refused at the bind: the slot freed, the refuse record queued, the engine idle. -/
theorem State.grantHead_refused {s : State} {p : Port} {r : Request} {rest : List Request} {code : RefusalCode}
    {generation : Byte} (hslots : (s.port p).slots = r :: rest) (hdiffer : ∀ x ∈ rest, x.slot ≠ r.slot)
    (hidle : s.store.pendingOp = none)
    (hrefusal : bindRefusal r.fields (s.bind (s.centreConverter r)) = some (code, generation)) :
    s.grantHead p r =
      { s with
        ports := s.ports.set p
          { s.port p with
            slots := rest
            replies := (s.port p).replies ++ [⟨code, generation, r.fields.tag, r.refuseFrame⟩] }
        store := { s.store with boundSlot := none }
        me := { s.me.granted p with mesh := none } } := by
  have hgrant : s.grantHead p r
      = ((s.bound p (s.bind (s.centreConverter r))).setPort p ((s.port p).refuse r code generation)).release p
          r.slot := by
    rw [State.grantHead]
    dsimp only
    rw [hrefusal]
    rfl
  have hfilter : ((s.port p).refuse r code generation).slots = rest :=
    (congrArg _ hslots).trans (filter_slot_head hdiffer)
  have hagain : rest.filter (fun x => x.slot != r.slot) = rest := by
    simpa [List.filter_eq_self] using hdiffer
  rw [hgrant, State.release_idle _ _ (by exact hidle)]
  refine (congrArg (fun u : State => ({ u with store := { s.store with boundSlot := none } } : State))
    (State.freed_set (s.bound p _) p r.slot _)).trans ?_
  rw [hfilter, hagain]
  rfl

/-- The state of a grant that starts a mesh, its head in the engine. -/
def State.serving (s : State) (p : Port) (r : Request) (rest : List Request) : State :=
  { s.bound p (s.bind (s.centreConverter r)) with
    ports := s.ports.set p { s.port p with slots := { r with state := .inEngine } :: rest } }

/-- A grant that starts the mesh: the head in the engine, then the header placed or held. -/
theorem State.grantHead_started {s : State} {p : Port} {r : Request} {rest : List Request}
    (hslots : (s.port p).slots = r :: rest) (hdiffer : ∀ x ∈ rest, x.slot ≠ r.slot)
    (hrefusal : bindRefusal r.fields (s.bind (s.centreConverter r)) = none) :
    s.grantHead p r =
      if (s.port p).fifo.length + 4 ≤ 1021 then
        (s.serving p r rest).placeUnit (newMesh s p r (s.bind (s.centreConverter r)))
      else
        (s.serving p r rest).holdUnit (newMesh s p r (s.bind (s.centreConverter r)))
          ⟨meshHeader r s.lst.epoch (s.bind (s.centreConverter r)), false, 0, false⟩ := by
  have hslots' : ((s.port p).modify r.slot fun x => { x with state := .inEngine }).slots
      = { r with state := .inEngine } :: rest := by
    show (s.port p).slots.map _ = _
    rw [hslots]
    exact map_slot_head _ hdiffer
  have hport : (s.port p).modify r.slot (fun x => { x with state := .inEngine })
      = { s.port p with slots := { r with state := .inEngine } :: rest } := by
    rw [← hslots']
    rfl
  have hstate : (s.bound p (s.bind (s.centreConverter r))).setPort p
      ((s.port p).modify r.slot fun x => { x with state := .inEngine }) = s.serving p r rest := by
    rw [hport]
    rfl
  have hgrant : ∀ m, newMesh s p r (s.bind (s.centreConverter r)) = m → s.grantHead p r =
      if (s.serving p r rest).fits p m.unit then (s.serving p r rest).placeUnit m
      else (s.serving p r rest).holdUnit m m.unit := by
    rintro m rfl
    rw [← hstate, State.grantHead]
    dsimp only
    rw [hrefusal]
    rfl
  rw [hgrant _ rfl]
  refine if_congr ?_ rfl rfl
  rw [State.fits_iff, show (s.serving p r rest).port p = _ from s.ports.get_set p _]
  rfl

/-- Settles O33: the header placed or held, and the two refusals at the bind. -/
theorem grantBindsThenPlacesOrRefuses : Obligations.GrantBindsThenPlacesOrRefuses := by
  refine ⟨?_, ?_⟩
  · intro s p r rest q t0 b bit header centre mesh headerUnit row0 stall after hgrant hslots hdiffer hrows hgen hprofile
    rw [exec_grant_head hgrant hslots, State.grantHead_started hslots hdiffer (bindRefusal_none hgen hprofile)]
    have hunit : meshHeader r s.lst.epoch b = header := by
      rw [meshHeader, ← BitVec.setWidth_eq_extractLsb' (by decide)]
    have hmesh : newMesh s p r b = mesh headerUnit none := by
      rw [newMesh, hunit]
      rfl
    have hport : (s.serving p r rest).port p = { q with slots := { r with state := .inEngine } :: rest } :=
      s.ports.get_set p _
    have hepoch : ((mesh headerUnit none).epochChanged
        || (s.serving p r rest).lst.epoch != (mesh headerUnit none).epoch) = false :=
      bne_self_eq_false s.lst.epoch
    rw [show newMesh s p r (s.bind (s.centreConverter r)) = mesh headerUnit none from hmesh]
    refine ⟨fun hroom => congrArg Host.Outcome.next ?_, fun hfull => congrArg Host.Outcome.next ?_⟩
    · rw [if_pos hroom, State.placeUnit_next (m := mesh headerUnit none) hrows]
      dsimp only
      rw [hport, hepoch]
      exact congrArg (fun ports => ({ after (q.fifo ++ header)
        (mesh row0 (if q.fifo.length + 4 + row0.words.length ≤ 1021 then none else some stall)) with
          ports := ports } : State)) (s.ports.set_set p _ _)
    · have hno : ¬ (s.serving p r rest).fits p headerUnit = true := by
        rw [State.fits_iff, hport]
        exact Nat.not_le.mpr hfull
      rw [if_neg (Nat.not_le.mpr hfull),
        show meshHeader r s.lst.epoch (s.bind (s.centreConverter r)) = header from hunit, State.holdUnit]
      dsimp only
      rw [if_neg hno]
      rfl
  · intro s p r rest q b refused hgrant hslots hdiffer hidle
    have hrefused : ∀ code generation, bindRefusal r.fields b = some (code, generation) → refused code generation := by
      intro code generation h
      show exec .grant s = _
      rw [exec_grant_head hgrant hslots, State.grantHead_refused hslots hdiffer hidle h]
      rfl
    exact ⟨fun k hslot hstrict hgen => hrefused _ _ (bindRefusal_gen hslot hstrict hgen),
      fun hslot hrequire => hrefused _ _ (bindRefusal_noProfile hslot hrequire)⟩

end Sys2Proof.Machine
end

section
/-! PROOFS. The resets that commands take: RESET_CORE (R179): O12; PORT_RESET (R137): O13. -/

namespace Sys2Proof.Machine

theorem exec_resetCore {s : State} (h : s.handed 0x04 4) :
    exec .resetCore s = .next (s.coreReset.respond .ok (bytes32 s.time ++ [byteOf s.cp.resetCause.code])) :=
  congrArg Host.Outcome.next (s.runCommand_fixed _ h rfl)

/-- The event unit of a CORE reset: RESET_DONE alone, unmasked by the reset configuration (R190). -/
theorem State.coreReset_eu (s : State) :
    s.coreReset.eu = { EventUnit.reset with queue := [⟨.resetDone, 2, s.time⟩] } := by
  unfold State.coreReset State.post State.masked EventUnit.post
  dsimp only
  rw [if_neg (by decide), if_pos (by decide)]
  rfl

theorem State.coreReset_answered (s : State) (args : List Byte) :
    (s.coreReset.respond .ok args).eu =
      { EventUnit.reset with queue := [⟨.resetDone, 2, s.time⟩, ⟨.responseReady, 0, s.time⟩] } := by
  have heu : (s.coreReset.respond .ok args).eu
      = s.coreReset.eu.post (s.coreReset.masked .responseReady) ⟨.responseReady, 0, s.time⟩ := rfl
  rw [heu, State.coreReset_eu, EventUnit.post, if_neg (show ¬ s.coreReset.masked .responseReady = true by
    show ¬ ConfigSet.reset.mask.getLsbD EventKind.responseReady.code = true
    decide), if_pos (by exact (by decide : 1 < 32))]
  rfl

/-- Settles O12: RESET_CORE, block by block. -/
theorem resetCoreLeavesTheCoreResetState : Obligations.ResetCoreLeavesTheCoreResetState := by
  intro s h
  refine ⟨_, exec_resetCore h, rfl, rfl, rfl, rfl, rfl, rfl, rfl, rfl,
    s.coreReset_answered _, rfl, ?_, ?_, rfl, rfl, rfl⟩
  · show (s.cp.latch.map ReadLatch.afterCore).map _ = _
    rw [Option.map_map]
    rfl
  · intro l hl
    obtain ⟨l', -, rfl⟩ := Option.map_eq_some_iff.mp (show s.cp.latch.map ReadLatch.afterCore = some l from hl)
    rfl

/-! ### PORT_RESET (R137) -/

theorem exec_portReset {s : State} (h : s.handed 0x07 5) : exec .portReset s = .next (portResetBody s) :=
  congrArg Host.Outcome.next (s.runCommand_fixed portResetBody h rfl)

theorem portOf_portCode (p : Port) : portOf (portCode p) = some p := by cases p <;> rfl

theorem portOf_none {n : Nat} (h : 2 ≤ n) : portOf n = none := by
  rw [portOf, if_neg (by omega), if_neg (by omega)]

theorem portResetBody_port {s : State} {p : Port} (h : s.arg 4 1 = portCode p) :
    portResetBody s
      = (s.portReset p).respond .ok [byteOf (s.port p).slots.length, boolByte (s.inProgress p)] := by
  rw [portResetBody, h, portOf_portCode]

theorem State.stopMesh_idle {s : State} {p : Port} (h : s.inProgress p = false) : s.stopMesh p = s := by
  unfold State.stopMesh
  cases hmesh : s.me.mesh with
  | none => rfl
  | some m =>
    have hport : m.port ≠ p := fun hp => by
      rw [(s.inProgress_iff p).mpr ⟨m, hmesh, hp⟩] at h
      cases h
    exact if_neg hport

theorem State.stopMesh_busy {s : State} {p : Port} (h : s.inProgress p = true) :
    ∃ j, s.stopMesh p = s.release p j := by
  obtain ⟨m, hmesh, hport⟩ := (s.inProgress_iff p).mp h
  refine ⟨m.request.slot, ?_⟩
  rw [State.stopMesh, hmesh]
  exact if_pos hport

/-- A release changes the tracker's override alone. -/
theorem State.releaseStore_lst (s : State) :
    s.releaseStore.lst = { s.lst with override := s.releaseStore.lst.override } := by
  unfold State.releaseStore
  repeat' split
  all_goals rfl

theorem State.stopMesh_override (s : State) (p : Port) :
    (s.stopMesh p).lst = { s.lst with override := (s.stopMesh p).lst.override } := by
  cases h : s.inProgress p with
  | false => rw [State.stopMesh_idle h]
  | true =>
    obtain ⟨j, hj⟩ := State.stopMesh_busy h
    rw [hj]
    exact (s.setPort p ((s.port p).free j)).releaseStore_lst

theorem State.stopMesh_portConfig (s : State) (p : Port) : ((s.stopMesh p).port p).config = (s.port p).config := by
  cases h : s.inProgress p with
  | false => rw [State.stopMesh_idle h]
  | true =>
    obtain ⟨j, hj⟩ := State.stopMesh_busy h
    rw [hj, State.release_port]
    rfl

/-- Settles O13: what a PORT_RESET does whatever the mesh, then by whether the port's mesh is in progress. -/
theorem portResetLeavesThePortResetState : Obligations.PortResetLeavesThePortResetState := by
  refine ⟨fun s p h hp => ?_, fun s h hbad => ?_⟩
  · obtain ⟨hown, hother, hme⟩ := s.portReset_port p
    refine ⟨_, (exec_portReset h).trans (congrArg Host.Outcome.next (portResetBody_port hp)), ?_, ?_, ?_, ?_, ?_, ?_,
      ?_, ?_, ?_, ?_, ?_, fun hidle => ?_, fun hbusy => ?_⟩
    · refine hown.trans ?_
      rw [MeshPort.portReset, s.stopMesh_portConfig p]
      rfl
    · show (s.stopMesh p).tsu.set p _ = _
      rw [State.stopMesh_tsu]
    · exact hother.trans (s.stopMesh_port_other p)
    · rw [State.respond_eq, State.portReset_cp]
      rfl
    · exact s.stopMesh_time p
    · exact s.stopMesh_config p
    · exact s.stopMesh_llr p
    · exact s.stopMesh_override p
    · exact s.stopMesh_freeIndex p
    · exact s.stopMesh_resetPhases p
    · exact s.stopMesh_pending p
    · have hreset : s.portReset p
          = { s.setPort p ((s.port p).portReset s.time) with tsu := s.tsu.set p StrobeUnit.reset } := by
        rw [State.portReset, State.stopMesh_idle hidle]
      rw [hreset]
      exact ⟨rfl, rfl, rfl, rfl⟩
    · obtain ⟨j, hj⟩ := State.stopMesh_busy hbusy
      have hreset : s.portReset p
          = { (s.release p j).setPort p (((s.release p j).port p).portReset (s.release p j).time) with
              tsu := (s.release p j).tsu.set p StrobeUnit.reset } := by
        rw [State.portReset, hj]
      rw [hreset]
      have happend : ∀ v : Half, s.posting [(.profileApplied, v), (.responseReady, 0)]
          = ({ s with eu := s.posting [(.profileApplied, v)] }).posting [(.responseReady, 0)] :=
        fun v => s.posting_append [(.profileApplied, v)] [(.responseReady, 0)]
      refine ⟨s.release_me p j, rfl, fun hidle => ?_, fun k c hop hbound hstaging => ?_, fun k hop hbound => ?_⟩
      · rw [State.release_idle p j hidle]
        exact ⟨rfl, rfl, rfl⟩
      · rw [State.release_commit p j hop hbound hstaging]
        exact ⟨rfl, rfl, (happend _).symm⟩
      · rw [State.release_delete p j hop hbound]
        exact ⟨rfl, rfl, (happend _).symm⟩
  · rw [exec_portReset h, portResetBody, portOf_none hbad]
    rfl

end Sys2Proof.Machine
end

section
/-! PROOFS. The direct items with an effect (R163, R185, R187): O35, O36; the mailbox bytes (R169, R171): O38; a
response (R173): O39; the checks before a command executes (R172): O40. -/

namespace Sys2Proof.Machine

/-! ### Reads with an effect (R163) -/

theorem getLsbD_append_high {n m i : Nat} (x : BitVec n) (y : BitVec m) (h : m ≤ i) :
    (x ++ y).getLsbD i = x.getLsbD (i - m) := by
  rw [BitVec.getLsbD_append, if_neg (by omega)]

theorem getLsbD_append_low {n m i : Nat} (x : BitVec n) (y : BitVec m) (h : i < m) :
    (x ++ y).getLsbD i = y.getLsbD i := by
  rw [BitVec.getLsbD_append, if_pos h]

/-- The four bytes of an event as EVENT_POP returns it (R195). -/
theorem bytes32_event (code : Byte) (param : Half) :
    bytes32 (0#8 ++ code ++ param) = [0, code, param.extractLsb' 8 8, param.extractLsb' 0 8] := by
  have hlow : ∀ k, k + 8 ≤ 16 → (0#8 ++ code ++ param).extractLsb' k 8 = param.extractLsb' k 8 := fun k hk =>
    BitVec.extractLsb'_append_eq_of_add_le hk
  have hcode : (0#8 ++ code ++ param).extractLsb' 16 8 = code := by
    rw [BitVec.extractLsb'_append_eq_of_le (by decide), BitVec.extractLsb'_append_eq_of_add_le (by decide)]
    exact BitVec.extractLsb'_eq_self
  have hzero : (0#8 ++ code ++ param).extractLsb' 24 8 = 0 := by
    rw [BitVec.extractLsb'_append_eq_of_le (by decide), BitVec.extractLsb'_append_eq_of_le (by decide)]
    exact BitVec.extractLsb'_eq_self
  exact congr (congrArg List.cons hzero) (congr (congrArg List.cons hcode)
    (congr (congrArg List.cons (hlow 8 (by decide))) (congrArg (fun b => [b]) (hlow 0 (by decide)))))

section
variable {s : State} (hold : s.cp.hold = .released)
include hold

theorem exec_eventPop (ph : ReadPhase) : exec (.eventPop ph) s = .next (s.readTransaction .eventPop ph) :=
  congrArg Host.Outcome.next (State.unlessHeld_released hold _)

theorem exec_summary (ph : ReadPhase) : exec (.summary ph) s = .next (s.readTransaction .summary ph) :=
  congrArg Host.Outcome.next (State.unlessHeld_released hold _)

end

theorem State.readFinish_latched {s : State} {i : EffectItem} {l : ReadLatch} (h : s.cp.latch = some l)
    (hitem : l.item = i) :
    s.readFinish i = { s with eu := s.eu.readEffect l, cp := { s.cp with latch := none } } := by
  rw [State.readFinish, h]
  exact if_pos hitem

/-- A whole read: the value at the address byte, then its effect, the latch gone. -/
theorem State.readTransaction_whole (s : State) (i : EffectItem) :
    s.readTransaction i .whole =
      { s with
        eu := s.eu.readEffect ⟨i, s.readItem i.address, !s.eu.queue.isEmpty⟩
        cp := { s.cp with latch := none, miso := bytes32 (s.readItem i.address) } } := by
  refine (State.readFinish_latched (s := s.readAddress i) (l := ⟨i, s.readItem i.address, !s.eu.queue.isEmpty⟩)
    ?_ ?_).trans ?_
  · rfl
  · rfl
  · rfl

theorem State.eventWord_of_queue {s : State} {e : Event} {es : List Event} (h : s.eu.queue = e :: es) :
    s.eventWord = 0#8 ++ BitVec.ofNat 8 e.kind.code ++ e.param := by
  rw [State.eventWord, h]

theorem State.eventWord_of_empty {s : State} (h : s.eu.queue = []) : s.eventWord = 0 := by
  rw [State.eventWord, h]

theorem EventUnit.pop_cons {u : EventUnit} {e : Event} {es : List Event} (h : u.queue = e :: es) :
    u.pop = { u with queue := es, eventTime := e.time } := by
  rw [EventUnit.pop, h]

/-- Settles O35: the phases of the read, by whether an event is queued. -/
theorem eventPopRemovesTheEventItReturned : Obligations.EventPopRemovesTheEventItReturned := by
  refine ⟨rfl, fun s hold => ⟨fun e es hqueue => ?_, fun hempty => ?_, fun e es v hqueue hlatch => ?_,
    fun v hlatch => ?_, exec_eventPop hold .cut⟩⟩
  · have hitem : s.readItem EffectItem.eventPop.address = 0#8 ++ BitVec.ofNat 8 e.kind.code ++ e.param :=
      State.eventWord_of_queue hqueue
    have hlive : (!s.eu.queue.isEmpty) = true := by rw [hqueue]; rfl
    refine ⟨?_, ?_⟩
    · rw [exec_eventPop hold, State.readTransaction_whole, hitem, bytes32_event, hlive]
      dsimp only [EventUnit.readEffect]
      rw [if_pos rfl, EventUnit.pop_cons hqueue]
    · rw [exec_eventPop hold, State.readTransaction, State.readAddress, hitem, bytes32_event, hlive]
  · have hitem : s.readItem EffectItem.eventPop.address = 0 := State.eventWord_of_empty hempty
    have hlive : (!s.eu.queue.isEmpty) = false := by rw [hempty]; rfl
    refine ⟨?_, ?_⟩
    · rw [exec_eventPop hold, State.readTransaction_whole, hitem, hlive]
      rfl
    · rw [exec_eventPop hold, State.readTransaction, State.readAddress, hitem, hlive]
      rfl
  · rw [exec_eventPop hold, State.readTransaction, State.readFinish_latched hlatch rfl]
    dsimp only [EventUnit.readEffect]
    rw [if_pos rfl, EventUnit.pop_cons hqueue]
  · rw [exec_eventPop hold, State.readTransaction, State.readFinish_latched hlatch rfl]
    rfl

/-! ### SUMMARY (R187) -/

theorem State.summaryWord_eq (s : State) :
    s.summaryWord =
      BitVec.ofBool s.eu.overflow ++ BitVec.ofBool s.eu.accessViolation ++ 0#13 ++ s.eu.summary.extractLsb' 1 16
        ++ 0#1 := by
  rw [State.summaryWord]
  simp only [BitVec.append_assoc', BitVec.cast_eq]

/-- The low bits of the word are those of the summary, bit 0 reading 0. -/
theorem State.summaryWord_low (s : State) :
    s.summaryWord.extractLsb' 0 17 = s.eu.summary.extractLsb' 1 16 ++ 0#1 := by
  rw [State.summaryWord, BitVec.extractLsb'_append_eq_of_add_le (by decide)]
  exact BitVec.extractLsb'_eq_self

theorem State.summaryWord_overflow (s : State) : s.summaryWord.getLsbD 31 = s.eu.overflow := by
  rw [State.summaryWord, getLsbD_append_high _ _ (by decide), getLsbD_append_high _ _ (by decide),
    getLsbD_append_high _ _ (by decide)]
  simp

theorem State.summaryWord_violation (s : State) : s.summaryWord.getLsbD 30 = s.eu.accessViolation := by
  rw [State.summaryWord, getLsbD_append_high _ _ (by decide), getLsbD_append_high _ _ (by decide),
    getLsbD_append_low _ _ (by decide)]
  simp

/-- A summary whose bit 0 is clear loses every bit returned. -/
theorem summary_and_not_returned {x : BitVec 17} (h : x.getLsbD 0 = false) :
    x &&& ~~~(x.extractLsb' 1 16 ++ 0#1) = 0 := by
  apply BitVec.eq_of_getLsbD_eq
  intro i hi
  cases i with
  | zero =>
    rw [BitVec.getLsbD_and, h, Bool.false_and]
    rfl
  | succ i =>
    rw [BitVec.getLsbD_and, BitVec.getLsbD_not, getLsbD_append_high _ _ (by omega), BitVec.getLsbD_extractLsb',
      Nat.add_sub_cancel, Nat.add_comm 1 i]
    simp [hi, show i < 16 by omega]

/-- What SUMMARY returned set is cleared. -/
theorem State.clearReturned_summaryWord {s : State} (h : s.eu.summary.getLsbD 0 = false) :
    s.eu.clearReturned s.summaryWord = { s.eu with summary := 0, overflow := false, accessViolation := false } := by
  rw [EventUnit.clearReturned, State.summaryWord_low, State.summaryWord_overflow, State.summaryWord_violation,
    summary_and_not_returned h, Bool.and_not_self, Bool.and_not_self]

/-- Settles O36: the phases of the read. -/
theorem summaryClearsWhatItReturned : Obligations.SummaryClearsWhatItReturned := by
  intro s hold bit value out
  have hitem : s.readItem EffectItem.summary.address = value := s.summaryWord_eq
  refine ⟨fun hzero => ?_, ?_, fun v live hlatch => ?_, exec_summary hold .cut⟩
  · rw [exec_summary hold, State.readTransaction_whole]
    show Host.Outcome.next { s with
      eu := s.eu.clearReturned s.summaryWord
      cp := { s.cp with latch := none, miso := bytes32 s.summaryWord } } = _
    rw [State.clearReturned_summaryWord hzero, show s.summaryWord = value from s.summaryWord_eq]
    rfl
  · rw [exec_summary hold, State.readTransaction, State.readAddress, hitem]
    rfl
  · refine ⟨_, exec_summary hold .finish, ?_⟩
    rw [State.readTransaction, State.readFinish_latched hlatch rfl]
    refine ⟨rfl, rfl, fun n hn => ?_, rfl, rfl⟩
    show (s.eu.summary &&& ~~~(v.extractLsb' 0 17)).getLsbD n = _
    simp [hn]

/-! ### A response (R173) -/

/-- Settles O39. -/
theorem responseIsWrittenThenAnnounced : Obligations.ResponseIsWrittenThenAnnounced := by
  refine ⟨rfl, fun s status args hlength => ⟨rfl, Memory.wf_holding _, fun i => Memory.read_holding _ ?_ i⟩⟩
  simp only [responseBytes, bytes16, List.length_append, List.length_cons, List.length_nil, Config.mailboxSize]
  omega

/-! ### The checks (R172) -/

/-- A command of fixed length handed over with another length (R172, check 3). -/
theorem State.runCommand_wrongLength {s : State} {c : Instr} {n : Nat} {body : State → State}
    (hdue : s.commandDue = some (c, .fixed n)) (hne : s.cmdLength ≠ n) :
    s.runCommand c body = s.respond .badLength [] := by
  rw [State.runCommand, hdue]
  exact (if_pos rfl).trans (if_neg hne)

/-- Settles O40: BAD_COMMAND's two cases, then each command of fixed length. -/
theorem commandsAreCheckedBeforeExecution : Obligations.CommandsAreCheckedBeforeExecution := by
  intro s hcmd hrsp hbusy fits
  have hready : s.commandReady = true := s.commandReady_iff.mpr ⟨hcmd, hrsp, hbusy⟩
  have hfits : s.lengthInRange = true ↔ fits := s.lengthInRange_iff
  have hbad : (s.lengthInRange = true → ∀ row ∈ commandTable, s.cmdCode ≠ row.1) →
      exec .badCommand s
        = .next (s.respond (if s.lengthInRange then .badCommand else .badLength) []) := fun h => by
    have hdue : s.commandDue = some (.badCommand, .byArguments) :=
      State.commandDue_eq_some.mpr ⟨hready, .inr ⟨rfl, rfl, h⟩⟩
    show execBadCommand s = _
    rw [execBadCommand, State.runCommand, hdue]
    rfl
  have hrows : ∀ row ∈ ([(0x02, 4, .getConfig), (0x03, 4, .getStatusDetail), (0x04, 4, .resetCore),
      (0x05, 5, .runControl), (0x06, 42, .portConfig), (0x07, 5, .portReset), (0x10, 21, .postAttach),
      (0x11, 11, .postPosition), (0x12, 6, .postDetach), (0x13, 5, .setSource), (0x14, 5, .readTimeline),
      (0x22, 4, .profileCommit), (0x23, 4, .profileDiscard), (0x24, 5, .profileDelete), (0x25, 7, .profileRead),
      (0x26, 4, .listProfiles), (0x27, 5, .bindOverride)] : List (Nat × Nat × Instr)),
      (row.1, row.2.2, CommandLength.fixed row.2.1) ∈ commandTable ∧ (commandBody row.2.2).isSome = true := by
    simp [commandTable, commandBody]
  refine ⟨fun hlength => ?_, fun hlength hcode => ?_, fun row hrow hlength hcode hne => ?_⟩
  · have hno : ¬ s.lengthInRange = true := fun h => hlength (hfits.mp h)
    rw [hbad fun h => absurd h hno, if_neg hno]
  · rw [hbad fun _ row hrow => ?_, if_pos (hfits.mpr hlength)]
    rintro heq
    exact hcode (heq ▸ List.mem_map_of_mem (f := Prod.fst) hrow)
  · obtain ⟨htable, hbody⟩ := hrows row hrow
    obtain ⟨body, hbody⟩ := Option.isSome_iff_exists.mp hbody
    have hdue : s.commandDue = some (row.2.2, .fixed row.2.1) :=
      State.commandDue_eq_some.mpr ⟨hready, .inl ⟨hfits.mpr hlength, hcode ▸ htable⟩⟩
    rw [exec_eq_runCommand hbody, State.runCommand_wrongLength hdue hne]

/-! ### The mailbox bytes (R169, R171) -/

theorem exec_mailboxDataWrite {s : State} (hold : s.cp.hold = .released) (b : Byte) :
    exec (.mailboxDataWrite b) s = .next (if s.cp.partOwns then { s.violate with cp := s.cp.advance }
      else { s with cp := (s.cp.storeData b).advance }) :=
  congrArg Host.Outcome.next (State.unlessHeld_released hold _)

theorem exec_mailboxDataRead {s : State} (hold : s.cp.hold = .released) :
    exec .mailboxDataRead s = .next { s with
      cp := { s.cp.advance with miso := [s.cp.returnedByte] }
      eu := { s.eu with accessViolation := s.eu.accessViolation || s.cp.partOwns } } :=
  congrArg Host.Outcome.next (State.unlessHeld_released hold _)

theorem ControlPort.storeData_command {c : ControlPort} (h : c.select = .command) (b : Byte) :
    c.storeData b =
      { c with
        cmdBox := c.cmdBox.write c.offset b
        extent := if c.offset < 256 then max c.extent (c.offset + 1) else c.extent } := by
  rw [ControlPort.storeData, h]
  rfl

theorem ControlPort.storeData_response {c : ControlPort} (h : c.select = .response) (b : Byte) :
    c.storeData b = { c with rspBox := c.rspBox.write c.offset b } := by
  rw [ControlPort.storeData, h]

/-- A byte of a mailbox. -/
def ControlPort.boxByte (c : ControlPort) : Mailbox → Nat → Byte
  | .command, i => c.cmdBox.read i
  | .response, i => c.rspBox.read i

theorem ControlPort.returnedByte_eq (c : ControlPort) :
    c.returnedByte = if c.partOwns = true ∨ 256 ≤ c.offset then 0 else c.boxByte c.select c.offset := by
  rw [ControlPort.returnedByte, ControlPort.dataByte]
  by_cases hown : c.partOwns = true
  · rw [if_pos hown, if_pos (.inl hown)]
  · by_cases hend : 256 ≤ c.offset
    · rw [if_neg hown, if_neg (show ¬ c.offset < Config.mailboxSize from Nat.not_lt.mpr hend), if_pos (.inr hend)]
    · rw [if_neg hown, if_pos (show c.offset < Config.mailboxSize from Nat.not_le.mp hend),
        if_neg (by simp [hown, hend])]
      cases c.select <;> rfl

/-- Settles O38. -/
theorem mailboxBytesAreStoredAndRead : Obligations.MailboxBytesAreStoredAndRead := by
  intro s b hold hsound at' owned next
  obtain ⟨hcmd, hrsp, -, hoffset⟩ := hsound
  have howned : s.cp.partOwns = owned := rfl
  have hnext : min Config.mailboxSize (s.cp.offset + 1) = next := by
    show min 256 (s.cp.offset + 1) = if s.cp.offset = 256 then 256 else s.cp.offset + 1
    split <;> omega
  have hadvance : ∀ c : ControlPort, c.offset = s.cp.offset → c.advance = { c with offset := next } := fun c hc => by
    rw [ControlPort.advance, hc, hnext]
  refine ⟨?_, ?_⟩
  · cases hown : owned with
    | true =>
      have hviolates : (s.eu.accessViolation || true) = true := Bool.or_true _
      refine ⟨_, (exec_mailboxDataWrite hold b).trans (congrArg _ (if_pos (howned.trans hown))), ?_, ?_,
        fun m i => ?_, ?_⟩
      · rw [hviolates]
        rfl
      · exact hadvance s.cp rfl
      · rw [if_neg (by simp)]
        rfl
      · rw [if_neg (by simp)]
        rfl
    | false =>
      have hkept : (s.eu.accessViolation || false) = s.eu.accessViolation := Bool.or_false _
      have hwrite := (exec_mailboxDataWrite hold b).trans
        (congrArg Host.Outcome.next (if_neg (by rw [howned, hown]; exact Bool.false_ne_true)))
      cases hselect : s.cp.select with
      | command =>
        rw [ControlPort.storeData_command hselect, hadvance] at hwrite
        · refine ⟨_, hwrite, ?_, ?_, fun m i => ?_, ?_⟩
          · rw [hkept]
          · rfl
          · cases m with
            | command =>
              exact (Memory.read_write hcmd s.cp.offset b i).trans (if_congr (by simp [Config.mailboxSize]) rfl rfl)
            | response => exact (if_neg (by simp)).symm
          · simp
        · rfl
      | response =>
        rw [ControlPort.storeData_response hselect, hadvance] at hwrite
        · refine ⟨_, hwrite, ?_, ?_, fun m i => ?_, ?_⟩
          · rw [hkept]
          · rfl
          · cases m with
            | command => exact (if_neg (by simp)).symm
            | response =>
              exact (Memory.read_write hrsp s.cp.offset b i).trans (if_congr (by simp [Config.mailboxSize]) rfl rfl)
          · simp
        · rfl
  · have hbyte : s.cp.boxByte s.cp.select s.cp.offset = at' s.cp s.cp.select s.cp.offset := by
      cases s.cp.select <;> rfl
    have hend : 256 ≤ s.cp.offset ↔ s.cp.offset = 256 := ⟨fun h => Nat.le_antisymm hoffset h, fun h => h.ge⟩
    rw [exec_mailboxDataRead hold, hadvance s.cp rfl, s.cp.returnedByte_eq, hbyte, howned]
    simp only [hend]

end Sys2Proof.Machine
end

section
/-! PROOFS. The items, the bytes a transaction drives and the rows it amounts to (R162 to R165, R195): O37. -/

namespace Sys2Proof.Machine

/-! ### STATUS (R165, R195) -/

theorem ofBool_getLsbD_zero (b : Bool) : (BitVec.ofBool b).getLsbD 0 = b := by cases b <;> rfl

/-- The single bits of STATUS, each where R195 lays it out. -/
theorem State.statusWord_bits (s : State) :
    s.statusWord.getLsbD 26 = (BitVec.ofNat 1 s.lst.source.code).getLsbD 0
      ∧ s.statusWord.getLsbD 25 = (BitVec.ofBool s.llr.fresh).getLsbD 0
      ∧ s.statusWord.getLsbD 24 = (BitVec.ofBool s.lst.postedFresh).getLsbD 0
      ∧ s.statusWord.getLsbD 21 = (BitVec.ofBool s.me.mesh.isSome).getLsbD 0
      ∧ s.statusWord.getLsbD 20 = s.me.busyBit.getLsbD 0
      ∧ s.statusWord.getLsbD 19 = (BitVec.ofBool s.ports.mp1.config.enabled).getLsbD 0
      ∧ s.statusWord.getLsbD 18 = (BitVec.ofBool s.ports.mp0.config.enabled).getLsbD 0
      ∧ s.statusWord.getLsbD 13 = (BitVec.ofBool s.tsu.mp1.lock.isLocked).getLsbD 0
      ∧ s.statusWord.getLsbD 12 = (BitVec.ofBool s.tsu.mp0.lock.isLocked).getLsbD 0
      ∧ s.statusWord.getLsbD 7 = (BitVec.ofBool s.eu.overflow).getLsbD 0 := by
  rw [State.statusWord]
  refine ⟨?_, ?_, ?_, ?_, ?_, ?_, ?_, ?_, ?_, ?_⟩
  all_goals
    repeat rw [getLsbD_append_high _ _ (by decide)]
    rw [getLsbD_append_low _ _ (by decide)]

theorem State.statusWord_initBusy (s : State) : s.statusWord.getLsbD 31 = (BitVec.ofBool s.cp.initBusy).getLsbD 0 := by
  rw [State.statusWord]
  repeat rw [getLsbD_append_high _ _ (by decide)]

/-- The fields of two bits. -/
theorem State.statusWord_fields (s : State) :
    s.statusWord.extractLsb' 29 2 = (BitVec.ofNat 2 s.cp.resetCause.code).extractLsb' 0 2
      ∧ s.statusWord.extractLsb' 27 2 = (BitVec.ofNat 2 s.trackerState.code).extractLsb' 0 2
      ∧ s.statusWord.extractLsb' 22 2 = (BitVec.ofNat 2 s.me.runState.code).extractLsb' 0 2
      ∧ s.statusWord.extractLsb' 16 2 = (BitVec.ofNat 2 s.ports.mp1.config.mode.code).extractLsb' 0 2
      ∧ s.statusWord.extractLsb' 14 2 = (BitVec.ofNat 2 s.ports.mp0.config.mode.code).extractLsb' 0 2
      ∧ s.statusWord.extractLsb' 10 2 = (BitVec.ofNat 2 s.store.staging.code).extractLsb' 0 2
      ∧ s.statusWord.extractLsb' 8 2 = (BitVec.ofNat 2 (pendingCode s.store.pendingOp)).extractLsb' 0 2 := by
  rw [State.statusWord]
  refine ⟨?_, ?_, ?_, ?_, ?_, ?_, ?_⟩
  all_goals
    repeat rw [BitVec.extractLsb'_append_eq_of_le (by decide)]
    rw [BitVec.extractLsb'_append_eq_of_add_le (by decide)]

theorem State.statusWord_zeros (s : State) : s.statusWord.extractLsb' 0 7 = 0 := by
  rw [State.statusWord, BitVec.extractLsb'_append_eq_of_add_le (by decide)]
  rfl

/-! ### The bytes a read drives (R162, R163) -/

theorem wordOut_length (v : Word) (n : Nat) : (wordOut v n).length = n := by
  simp only [wordOut, bytes32, List.length_take, List.length_append, List.length_cons, List.length_nil,
    List.length_replicate]
  omega

theorem wordOut_getD (v : Word) {n i : Nat} (h : i < n) : (wordOut v n).getD i 0 = (bytes32 v).getD i 0 := by
  have htake : (wordOut v n).getD i 0 = (bytes32 v ++ List.replicate n 0).getD i 0 := by
    rw [wordOut, List.getD_eq_getElem?_getD, List.getElem?_take_of_lt h, List.getD_eq_getElem?_getD]
  rw [htake]
  by_cases hi : i < (bytes32 v).length
  · exact List.getD_append _ _ _ _ hi
  · rw [List.getD_append_right _ _ _ _ (Nat.not_lt.mp hi), List.getD_eq_default _ _ (Nat.not_lt.mp hi)]
    rw [List.getD_eq_getElem?_getD, List.getElem?_replicate]
    split <;> rfl

/-- MAILBOX_DATA byte after byte, the offset advancing up to 256. -/
theorem ControlPort.dataOut_spec (n : Nat) (c : ControlPort) :
    (c.dataOut n).length = n ∧ ∀ i < n, (c.dataOut n).getD i 0 =
      if c.partOwns = true ∨ 256 ≤ c.offset + i then 0 else c.boxByte c.select (c.offset + i) := by
  induction n generalizing c with
  | zero => exact ⟨rfl, fun i hi => absurd hi (Nat.not_lt_zero i)⟩
  | succ n ih =>
    obtain ⟨hlength, hbytes⟩ := ih c.advance
    refine ⟨congrArg (· + 1) hlength, fun i hi => ?_⟩
    cases i with
    | zero =>
      exact c.returnedByte_eq
    | succ i =>
      have hoffset : c.advance.offset = min 256 (c.offset + 1) := rfl
      refine (hbytes i (Nat.lt_of_succ_lt_succ hi)).trans ?_
      show (if c.partOwns = true ∨ 256 ≤ c.advance.offset + i then 0
        else c.boxByte c.select (c.advance.offset + i)) = _
      by_cases hend : 256 ≤ c.offset + (i + 1)
      · rw [if_pos (.inr (by omega)), if_pos (.inr hend)]
      · rw [show c.advance.offset + i = c.offset + (i + 1) by omega]

/-! ### The rows of a transaction (R162, R163) -/

theorem word_of_bytes (a b c d : Byte) : word [a, b, c, d] = a ++ b ++ c ++ d := by
  rw [word_quad]
  simp only [BitVec.append_assoc', BitVec.cast_eq]

section
variable {a : BitVec 7} {data : List Byte}

theorem writeCommands_data (h : a = 0x0A#7) : writeCommands a data = data.map .mailboxDataWrite := if_pos h

theorem writeCommands_short (h : a ≠ 0x0A#7) (hshort : data.length < 4) : writeCommands a data = [] :=
  (if_neg h).trans (if_pos hshort)

theorem writeCommands_word (h : a ≠ 0x0A#7) {b0 b1 b2 b3 : Byte} {rest : List Byte}
    (hdata : data = b0 :: b1 :: b2 :: b3 :: rest) :
    writeCommands a data =
      if a = 0x08#7 then [.mailboxFlags (b0 ++ b1 ++ b2 ++ b3)]
      else if a = 0x09#7 then [.mailboxSelect (b0 ++ b1 ++ b2 ++ b3)]
      else [.itemWriteIgnored a (b0 ++ b1 ++ b2 ++ b3)] := by
  subst hdata
  rw [← word_of_bytes]
  refine (if_neg h).trans (if_neg ?_)
  simp

end

section
variable {a : BitVec 7} {n : Nat}

theorem readCommands_data (h : a = 0x0A#7) : readCommands a n = List.replicate n .mailboxDataRead := if_pos h

theorem readCommands_eventPop (h : a = 0x03#7) :
    readCommands a n = if n < 4 then [.eventPop .address, .eventPop .cut] else [.eventPop .whole] := by
  have hdata : a ≠ 0x0A#7 := by rw [h]; decide
  by_cases hn : n < 4
  · rw [if_pos hn, readCommands, if_neg hdata, if_pos h, if_neg (Nat.not_le.mpr hn)]
  · rw [if_neg hn, readCommands, if_neg hdata, if_pos h, if_pos (Nat.not_lt.mp hn)]

theorem readCommands_summary (h : a = 0x05#7) :
    readCommands a n = if n < 4 then [.summary .address, .summary .cut] else [.summary .whole] := by
  have hdata : a ≠ 0x0A#7 := by rw [h]; decide
  by_cases hn : n < 4
  · rw [if_pos hn, readCommands, if_neg hdata, if_neg (by rw [h]; decide), if_pos h, if_neg (Nat.not_le.mpr hn)]
  · rw [if_neg hn, readCommands, if_neg hdata, if_neg (by rw [h]; decide), if_pos h, if_pos (Nat.not_lt.mp hn)]

theorem readCommands_none (hdata : a ≠ 0x0A#7) (hevent : a ≠ 0x03#7) (hsummary : a ≠ 0x05#7) :
    readCommands a n = [] :=
  (if_neg hdata).trans ((if_neg hevent).trans (if_neg hsummary))

end

theorem transactionCommands_write {first : Byte} (h : first.getLsbD 7 = false) (data : List Byte) :
    transactionCommands (first :: data) = writeCommands (first.extractLsb' 0 7) data :=
  if_neg (by rw [h]; exact Bool.false_ne_true)

theorem transactionCommands_read {first : Byte} (h : first.getLsbD 7 = true) (data : List Byte) :
    transactionCommands (first :: data) = readCommands (first.extractLsb' 0 7) data.length :=
  if_pos h

/-- Settles O37: the items' values, the bytes of a read, the rows of a transaction, and the items written. -/
theorem itemsAreReadAndWritten : Obligations.ItemsAreReadAndWritten := by
  refine ⟨fun s => ?values, fun s n => ?bytes, fun s free csnLow first data => ?drives,
    fun first data hwrite => ?writes, rfl, fun first data hread => ?reads, fun s v => ?written⟩
  case values =>
    intro status mode locked
    obtain ⟨hsource, hfresh, hposted, hbusy, hport, hon1, hon0, hlock1, hlock0, hoverflow⟩ := s.statusWord_bits
    obtain ⟨hcause, htracker, hrun, hmode1, hmode0, hstaging, hpending⟩ := s.statusWord_fields
    have hmode : ∀ m : TriggerMode, (BitVec.ofNat 2 m.code).extractLsb' 0 2 = mode m := fun m => by cases m <;> rfl
    have hlocked : ∀ l : Lock, (BitVec.ofBool l.isLocked).getLsbD 0 = locked l := fun l =>
      (ofBool_getLsbD_zero _).trans (by cases l <;> rfl)
    refine ⟨⟨s.statusWord_initBusy.trans (ofBool_getLsbD_zero _), ?cause, ?tracker, ?source,
      hfresh.trans (ofBool_getLsbD_zero _), hposted.trans (ofBool_getLsbD_zero _), ?run,
      hbusy.trans (ofBool_getLsbD_zero _), ?port, hon1.trans (ofBool_getLsbD_zero _),
      hon0.trans (ofBool_getLsbD_zero _), hmode1.trans (hmode _), hmode0.trans (hmode _), hlock1.trans (hlocked _),
      hlock0.trans (hlocked _), ?staging, ?pending, hoverflow.trans (ofBool_getLsbD_zero _), s.statusWord_zeros⟩,
      rfl, rfl, rfl, rfl, fun a ha => ?other⟩
    case cause => exact hcause.trans (by cases s.cp.resetCause <;> rfl)
    case tracker => exact htracker.trans (by cases s.trackerState <;> rfl)
    case source => exact hsource.trans (by cases s.lst.source <;> rfl)
    case run => exact hrun.trans (by cases s.me.runState <;> rfl)
    case port =>
      refine hport.trans ?_
      rw [Engine.busyBit]
      cases s.me.mesh with
      | none => rfl
      | some m => exact ofBool_getLsbD_zero _
    case staging => exact hstaging.trans (by cases s.store.staging <;> rfl)
    case pending =>
      refine hpending.trans ?_
      cases s.store.pendingOp with
      | none => rfl
      | some op => cases op <;> rfl
    case other =>
      simp only [List.mem_cons, List.not_mem_nil, or_false, not_or] at ha
      simp [State.readItem, ha]
  case bytes =>
    refine ⟨fun a ha => ?_, ?_⟩
    · have hout : s.readOut a n = wordOut (s.readItem a) n := if_neg ha
      intro v
      rw [hout]
      exact ⟨wordOut_length v n, fun i hi => wordOut_getD v hi⟩
    · intro owned box
      have hout : s.readOut 0x0A#7 n = s.cp.dataOut n := rfl
      rw [hout]
      obtain ⟨hlength, hbytes⟩ := s.cp.dataOut_spec n
      refine ⟨hlength, fun i hi => (hbytes i hi).trans ?_⟩
      have hbyte : s.cp.boxByte s.cp.select (s.cp.offset + i) = box.read (s.cp.offset + i) := by
        cases h : s.cp.select <;> simp only [box, h] <;> rfl
      rw [hbyte]
      rfl
  case drives =>
    refine ⟨by simp [State.drivesMiso], rfl, fun h => ?_, fun h => ?_⟩
    · exact congrArg (List.cons 0) (if_pos h)
    · exact congrArg (List.cons 0) (if_neg (by rw [h]; exact Bool.false_ne_true))
  case writes =>
    intro a
    rw [transactionCommands_write hwrite]
    refine ⟨writeCommands_data, writeCommands_short, fun b0 b1 b2 b3 rest hdata => ?_⟩
    intro v
    refine ⟨fun h8 => ?_, fun h9 => ?_, fun h8 h9 hA => ?_⟩
    · rw [writeCommands_word (by rw [show first.extractLsb' 0 7 = _ from h8]; decide) hdata, if_pos h8]
    · have h9' : first.extractLsb' 0 7 = 0x09#7 := h9
      rw [writeCommands_word (by rw [h9']; decide) hdata, if_neg (by rw [h9']; decide), if_pos h9']
    · rw [writeCommands_word hA hdata, if_neg h8, if_neg h9]
  case reads =>
    intro a rows
    have hrows : rows = readCommands a data.length := transactionCommands_read hread data
    rw [hrows]
    refine ⟨readCommands_data, readCommands_eventPop, readCommands_summary, readCommands_none⟩
  case written =>
    refine ⟨fun hold => ⟨?_, ?_⟩, fun hheld c hc => ?_, fun a => ⟨fun h8 h9 hA => ?_, fun ha => ?_⟩⟩
    · exact congrArg Host.Outcome.next (State.unlessHeld_released hold _)
    · have hoffset : (v.extractLsb' 0 9).toNat = v.toNat % 512 := by simp
      refine congrArg Host.Outcome.next ((State.unlessHeld_released hold _).trans ?_)
      rw [hoffset]
      rfl
    · rcases hc with ⟨ph, rfl | rfl⟩ | rfl | rfl | ⟨b, rfl⟩ | rfl
      all_goals exact congrArg Host.Outcome.next (State.unlessHeld_held hheld _)
    · exact if_pos (by simp [Instr.wellFormed, writableAddress, h8, h9, hA])
    · refine if_neg ?_
      rcases ha with rfl | rfl | rfl <;> exact Bool.false_ne_true

end Sys2Proof.Machine
end

section
/-! PROOFS. Commands that check and set: SET_SOURCE, RUN_CONTROL, BIND_OVERRIDE (R84, R143, R43): O45; PROFILE_COMMIT
(R32 to R35): O43; PORT_CONFIG (R136): O42; SET_CONFIG (R176): O41. -/

namespace Sys2Proof.Machine

/-! ### The commands of one value (R43, R84, R143) -/

theorem feedOf_code (f : Feed) : feedOf f.code = some f := by cases f <;> rfl

theorem feedOf_none {n : Nat} (h : 2 ≤ n) : feedOf n = none := by
  rw [feedOf, if_neg (by omega), if_neg (by omega)]

theorem runStateOf_code (r : RunState) : runStateOf r.code = some r := by cases r <;> rfl

theorem runStateOf_none {n : Nat} (h : 3 ≤ n) : runStateOf n = none := by
  rw [runStateOf, if_neg (by omega), if_neg (by omega), if_neg (by omega)]

theorem exec_setSource {s : State} (h : s.handed 0x13 5) : exec .setSource s = .next (setSourceBody s) :=
  congrArg Host.Outcome.next (s.runCommand_fixed setSourceBody h rfl)

theorem exec_runControl {s : State} (h : s.handed 0x05 5) : exec .runControl s = .next (runControlBody s) :=
  congrArg Host.Outcome.next (s.runCommand_fixed runControlBody h rfl)

theorem exec_bindOverride {s : State} (h : s.handed 0x27 5) : exec .bindOverride s = .next (bindOverrideBody s) :=
  congrArg Host.Outcome.next (s.runCommand_fixed bindOverrideBody h rfl)

theorem sourceParam_commanded (f : Feed) : sourceParam false f = BitVec.ofNat 16 f.code := by cases f <;> rfl

/-- SET_SOURCE to a feed (R84). -/
theorem setSourceBody_feed {s : State} {f : Feed} (h : s.arg 4 1 = f.code) :
    setSourceBody s =
      (if s.lst.source = f then s else s.changeSource f false).respond .ok
        [byteOf s.lst.source.code, byteOf f.code, boolByte (s.freshOf f)] := by
  rw [setSourceBody, h, feedOf_code]

theorem runControlBody_state {s : State} {r : RunState} (h : s.arg 4 1 = r.code) :
    runControlBody s =
      ({ s with me := { s.me with runState := r } }).respond .ok
        [byteOf s.me.runState.code, byteOf r.code, boolByte s.me.mesh.isSome] := by
  rw [runControlBody, h, runStateOf_code]

/-- BIND_OVERRIDE to a slot (R43). -/
theorem bindOverrideBody_slot {s : State} {k : Fin 16} (h : s.arg 4 1 = k.val) :
    bindOverrideBody s =
      if s.lst.record.isNone then s.respond .noLens []
      else if (s.profile? k).isNone then s.respond .notFound []
      else s.setOverride (some k) := by
  have hk := k.isLt
  rw [bindOverrideBody, h, if_neg (by omega), slotOf?_val]

/-- Settles O45: each command by its argument. -/
theorem oneValueCommandsSetTheirValue : Obligations.OneValueCommandsSetTheirValue := by
  refine ⟨fun s h => ?source, fun s h => ?run, fun s h => ?override⟩
  case source =>
    rw [exec_setSource h]
    refine ⟨fun hbad => ?_, fun f hf => ?_⟩
    · rw [setSourceBody, feedOf_none hbad]
      rfl
    · intro changed
      have hchanged : s.changeSource f false = changed := by
        rw [State.changeSource, sourceParam_commanded]
        rfl
      rw [setSourceBody_feed hf, hchanged]
      rfl
  case run =>
    rw [exec_runControl h]
    refine ⟨fun r hr => ?_, fun hbad => ?_⟩
    · rw [runControlBody_state hr]
      rfl
    · rw [runControlBody, runStateOf_none hbad]
      rfl
  case override =>
    intro before sets
    have hbefore : slotByte s.lst.override = before := by
      simp only [before]
      cases s.lst.override <;> rfl
    have hsets : ∀ o, exec .bindOverride s = .next (s.setOverride o) → sets o := fun o ho => by
      refine ho.trans ?_
      rw [State.setOverride, hbefore]
    refine ⟨fun hnone => ?_, fun hbad hne => ?_, fun k hk => ⟨fun hr => ?_, fun hr hempty => ?_, fun hr hfull => ?_⟩⟩
    · refine hsets none ((exec_bindOverride h).trans ?_)
      rw [bindOverrideBody, if_pos hnone]
    · rw [exec_bindOverride h, bindOverrideBody, if_neg hne, slotOf?_eq_none hbad]
      rfl
    · rw [exec_bindOverride h, bindOverrideBody_slot hk, if_pos (by simp [hr])]
    · rw [exec_bindOverride h, bindOverrideBody_slot hk, if_neg (by simpa using hr), if_pos (by simp [hempty])]
    · refine hsets (some k) ((exec_bindOverride h).trans ?_)
      rw [bindOverrideBody_slot hk, if_neg (by simpa using hr), if_neg (by simpa using hfull)]

/-! ### PROFILE_COMMIT (R32 to R35) -/

theorem exec_profileCommit {s : State} (h : s.handed 0x22 4) : exec .profileCommit s = .next (profileCommitBody s) :=
  congrArg Host.Outcome.next (s.runCommand_fixed profileCommitBody h rfl)

/-- The lowest slot that holds the key is the one the key names. -/
theorem State.slotWithKey_of_lowest {s : State} {id : Word} {c : BitVec 2} {k : Fin 16} (hk : s.key? k = some (id, c))
    (hlow : ∀ j < k, s.key? j ≠ some (id, c)) : s.slotWithKey id c = some k := by
  cases hslot : s.slotWithKey id c with
  | none => exact absurd hk (State.slotWithKey_none hslot k)
  | some j =>
    obtain ⟨hj, hlowest⟩ := State.slotWithKey_some hslot
    rcases lt_trichotomy j k with h | rfl | h
    · exact absurd hj (hlow j h)
    · rfl
    · exact absurd hk (hlowest k h)

theorem State.slotWithKey_of_none {s : State} {id : Word} {c : BitVec 2} (h : ∀ j, s.key? j ≠ some (id, c)) :
    s.slotWithKey id c = none := by
  cases hslot : s.slotWithKey id c with
  | none => rfl
  | some j => exact absurd (State.slotWithKey_some hslot).1 (h j)

/-- The lowest slot that passes a test is the one found. -/
theorem findSlot_of_lowest {s : State} {test : Option Profile → Bool} {k : Fin 16} (hk : test (s.profile? k) = true)
    (hlow : ∀ j < k, test (s.profile? j) = false) : findSlot s test = some k := by
  cases hslot : findSlot s test with
  | none => exact absurd hk (by rw [findSlot_none hslot]; exact Bool.false_ne_true)
  | some j =>
    obtain ⟨hj, hlowest⟩ := findSlot_some hslot
    rcases lt_trichotomy j k with h | rfl | h
    · exact absurd hj (by rw [hlow j h]; exact Bool.false_ne_true)
    · rfl
    · exact absurd hk (by rw [hlowest k h]; exact Bool.false_ne_true)

theorem findSlot_of_none {s : State} {test : Option Profile → Bool} (h : ∀ j, test (s.profile? j) = false) :
    findSlot s test = none := by
  cases hslot : findSlot s test with
  | none => rfl
  | some j => exact absurd (findSlot_some hslot).1 (by rw [h j]; exact Bool.false_ne_true)

/-- A commit's target: the lowest slot with the key, or without one the lowest empty slot (R33). -/
theorem State.commitTarget_of_target {s : State} {h : ProfileHeader} {k : Fin 16}
    (hk : (s.key? k = some (h.lensId, h.converter) ∧ ∀ j < k, ¬ s.key? j = some (h.lensId, h.converter))
      ∨ ((∀ j, ¬ s.key? j = some (h.lensId, h.converter)) ∧ s.profile? k = none ∧ ∀ j < k, s.profile? j ≠ none)) :
    s.commitTarget h = some k := by
  rw [State.commitTarget]
  rcases hk with ⟨hkey, hlow⟩ | ⟨hnone, hempty, hlow⟩
  · rw [State.slotWithKey_of_lowest hkey hlow, Option.some_or]
  · rw [State.slotWithKey_of_none hnone, Option.none_or]
    exact findSlot_of_lowest (by rw [hempty]; rfl) fun j hj =>
      Option.isNone_eq_false_iff.mpr (Option.isSome_iff_ne_none.mpr (hlow j hj))

/-- The first place of a list that passes a test. -/
theorem findIdx?_of_first {α : Type} {l : List α} {test : α → Bool} {i : Nat} {x : α} (hi : l[i]? = some x)
    (hx : test x = true) (hfirst : ∀ j < i, ∀ y, l[j]? = some y → test y = false) : l.findIdx? test = some i := by
  obtain ⟨hlt, rfl⟩ := List.getElem?_eq_some_iff.mp hi
  refine List.findIdx?_eq_some_iff_getElem.mpr ⟨hlt, hx, fun j hj => ?_⟩
  rw [hfirst j hj _ (List.getElem?_eq_getElem (hj.trans hlt))]
  exact Bool.false_ne_true

section
variable {s : State} (hidle : s.store.pendingOp = none) {p : Staged} (hopen : s.store.staging = .opened p)
include hidle hopen

theorem profileCommitBody_incomplete {i : Nat} (h : p.table.findIdx? Option.isNone = some i) :
    profileCommitBody s = s.respond .incomplete [byteOf i] := by
  rw [profileCommitBody, if_neg (by simp [hidle]), hopen]
  dsimp only
  rw [h]

theorem profileCommitBody_badFill {i : Nat} (hwritten : p.table.findIdx? Option.isNone = none)
    (h : p.table.findIdx? badFill = some i) : profileCommitBody s = s.respond .badProfile [byteOf i, 8] := by
  rw [profileCommitBody, if_neg (by simp [hidle]), hopen]
  dsimp only
  rw [hwritten]
  dsimp only
  rw [h]

theorem profileCommitBody_checked (hwritten : p.table.findIdx? Option.isNone = none)
    (hfilled : p.table.findIdx? badFill = none) (target : Option (Fin 16)) (h : s.commitTarget p.header = target) :
    profileCommitBody s = target.elim (s.respond .noSlot []) fun k => s.commitTo k p := by
  subst h
  rw [profileCommitBody, if_neg (by simp [hidle]), hopen]
  dsimp only
  rw [hwritten]
  dsimp only
  rw [hfilled]
  cases s.commitTarget p.header <;> rfl

end

/-- Settles O43: PROFILE_COMMIT's checks one after the other, then its target. -/
theorem profileCommitAppliesOrDefers : Obligations.ProfileCommitAppliesOrDefers := by
  intro s h written filled holds target
  rw [exec_profileCommit h]
  have hwritten : ∀ {p : Staged}, written p → p.table.findIdx? Option.isNone = none := fun hp =>
    List.findIdx?_eq_none_iff.mpr fun c hc => Option.isNone_eq_false_iff.mpr (Option.isSome_iff_ne_none.mpr (hp c hc))
  have hfilled : ∀ {p : Staged}, filled p → p.table.findIdx? badFill = none := fun hp =>
    List.findIdx?_eq_none_iff.mpr fun c hc => by
      cases c with
      | none => rfl
      | some x => simp [badFill, (fillInRange_iff x).mpr (hp _ hc x rfl)]
  refine ⟨fun hbusy => ?_, fun hidle hclosed => ?_, fun p hidle hopen => ⟨fun i hi hfirst => ?_,
    fun hw i x hi hx hfirst => ?_, fun hw hf hfull => ?_, fun hw hf k hk => ⟨fun hfree => ?_, fun hbound => ?_⟩⟩⟩
  · rw [profileCommitBody, if_pos (Option.isSome_iff_ne_none.mpr hbusy)]
  · rw [profileCommitBody, if_neg (by simp [hidle])]
    cases hst : s.store.staging with
    | closed => rfl
    | opened p => exact absurd hst (hclosed p)
    | committing p => rfl
  · rw [profileCommitBody_incomplete hidle hopen (findIdx?_of_first hi rfl fun j hj y hy => ?_)]
    · rfl
    · exact Option.isNone_eq_false_iff.mpr (Option.isSome_iff_ne_none.mpr fun hnone => hfirst j hj (hnone ▸ hy))
  · have hbad : badFill (some x) = true := by
      rw [badFill, Bool.not_eq_true', Bool.eq_false_iff, Ne, fillInRange_iff]
      exact hx
    rw [profileCommitBody_badFill hidle hopen (hwritten hw) (findIdx?_of_first hi hbad fun j hj y hy => ?_)]
    · rfl
    · cases y with
      | none => rfl
      | some y => rw [badFill, (fillInRange_iff y).mpr (hfirst j hj y hy), Bool.not_true]
  · have htarget : s.commitTarget p.header = none := by
      rw [State.commitTarget, State.slotWithKey_of_none fun j => (hfull j).1, Option.none_or]
      exact findSlot_of_none fun j => Option.isNone_eq_false_iff.mpr (Option.isSome_iff_ne_none.mpr (hfull j).2)
    rw [profileCommitBody_checked hidle hopen (hwritten hw) (hfilled hf) none htarget]
    rfl
  · rw [profileCommitBody_checked hidle hopen (hwritten hw) (hfilled hf) (some k) (State.commitTarget_of_target hk)]
    show Host.Outcome.next (s.commitTo k p) = _
    rw [State.commitTo, if_neg hfree, State.applyCommit_eq]
    rfl
  · rw [profileCommitBody_checked hidle hopen (hwritten hw) (hfilled hf) (some k) (State.commitTarget_of_target hk)]
    show Host.Outcome.next (s.commitTo k p) = _
    rw [State.commitTo, if_pos hbound]
    rfl

end Sys2Proof.Machine
end

section
/-! PROOFS. PORT_CONFIG (R136): O42; SET_CONFIG (R176): O41. -/

namespace Sys2Proof.Machine

/-! ### The template argument (R193, R196) -/

theorem Memory.slice_succ (m : Memory) (a n : Nat) : m.slice a (n + 1) = m.read a :: m.slice (a + 1) n := by
  simp only [Memory.slice, List.range_succ_eq_map, List.map_cons, List.map_map, Nat.add_zero, Function.comp_def,
    Nat.succ_eq_add_one, Nat.add_assoc, Nat.add_comm 1]

/-- The words that stand in a mailbox from an offset on. -/
theorem wordsOf_slice (m : Memory) (n a : Nat) :
    wordsOf (m.slice a (4 * n)) = (List.range n).map fun i => word (m.slice (a + 4 * i) 4) := by
  induction n generalizing a with
  | zero => rfl
  | succ n ih =>
    have hfour : m.slice a (4 * (n + 1)) = m.slice a 4 ++ m.slice (a + 4) (4 * n) := by
      rw [show 4 * (n + 1) = 4 * n + 1 + 1 + 1 + 1 by omega]
      simp only [Memory.slice_succ, show Memory.slice m (a + 1 + 1 + 1 + 1) 0 = [] from rfl, List.cons_append,
        List.nil_append, Nat.add_assoc]
    rw [hfour, List.range_succ_eq_map, List.map_cons, List.map_map]
    refine congrArg₂ List.cons rfl ((ih (a + 4)).trans (List.map_congr_left fun i _ => ?_))
    show word _ = word _
    rw [show a + 4 + 4 * i = a + 4 * (i + 1) by omega]

theorem State.argTemplate_eq (s : State) :
    s.argTemplate = RequestFields.ofWords ((List.range 8).map fun i => BitVec.ofNat 32 (s.arg (10 + 4 * i) 4)) := by
  exact congrArg RequestFields.ofWords (wordsOf_slice s.cp.cmdBox 8 10)

/-! ### PORT_CONFIG (R136) -/

theorem exec_portConfig {s : State} (h : s.handed 0x06 42) : exec .portConfig s = .next (portConfigBody s) :=
  congrArg Host.Outcome.next (s.runCommand_fixed portConfigBody h rfl)

theorem portOf_some {n : Nat} (h : n ≤ 1) : ∃ p, portOf n = some p := by
  match n, h with
  | 0, _ => exact ⟨_, rfl⟩
  | 1, _ => exact ⟨_, rfl⟩

theorem modeOf_some {n : Nat} (h : n ≤ 2) : ∃ m, modeOf n = some m := by
  match n, h with
  | 0, _ => exact ⟨_, rfl⟩
  | 1, _ => exact ⟨_, rfl⟩
  | 2, _ => exact ⟨_, rfl⟩

theorem modeOf_none {n : Nat} (h : 3 ≤ n) : modeOf n = none := by
  rw [modeOf, if_neg (by omega), if_neg (by omega), if_neg (by omega)]

theorem modeOf_code (m : TriggerMode) : modeOf m.code = some m := by cases m <;> rfl

theorem policyOf_some {n : Nat} (h : n ≤ 1) : ∃ p, policyOf n = some p := by
  match n, h with
  | 0, _ => exact ⟨_, rfl⟩
  | 1, _ => exact ⟨_, rfl⟩

theorem policyOf_none {n : Nat} (h : 2 ≤ n) : policyOf n = none := by
  rw [policyOf, if_neg (by omega), if_neg (by omega)]

theorem policyOf_code (p : FullPolicy) : policyOf p.code = some p := by cases p <;> rfl

theorem PortConfig.sameButTiming_iff (a b : PortConfig) :
    a.sameButTiming b = true ↔ a = { b with
      template := { b.template with exposure := a.template.exposure, lineTime := a.template.lineTime } } :=
  beq_iff_eq

/-- The checks after the arguments' own (R136, checks 2 to 4). -/
theorem State.configure_eq (s : State) (p : Port) (c : PortConfig) :
    s.configure p c =
      if c.enabled = true ∧ (s.config.width = 0 ∨ s.config.height = 0) then s.badArgument 2
      else if (s.port p).config.enabled = true ∧ (s.port p).slots ≠ []
          ∧ ¬ c = { (s.port p).config with template := { (s.port p).config.template with
              exposure := c.template.exposure, lineTime := c.template.lineTime } } then s.respond .portActive []
      else if c.enabled = true ∧ c.mode ≠ .command
          ∧ ¬ (windowFits c.template s.config = true ∧ gridFits c.template.nc c.template.nr = true) then s.badArgument 7
      else (s.setPort p { s.port p with config := c }).respond .ok [] := by
  unfold State.configure
  refine if_congr ?_ rfl (if_congr ?_ rfl (if_congr ?_ rfl rfl))
  · simp
  · rw [← PortConfig.sameButTiming_iff]
    simp [and_assoc]
  · simp only [templateFits, Bool.and_eq_true, bne_iff_ne, Bool.not_eq_true', ← Bool.not_eq_true, and_assoc]

/-- Settles O42: the arguments in order, then the checks of `configure`. -/
theorem portConfigChecksThenConfigures : Obligations.PortConfigChecksThenConfigures := by
  intro s h template q bad fits
  have hexec := exec_portConfig h
  refine ⟨fun h4 => ?_, fun h4 h5 => ?_, fun h4 h5 h6 => ?_, fun h4 h5 h6 h7 => ?_, fun h4 h5 h6 h7 h8 => ?_,
    fun h4 h5 h6 h7 h8 h9 => ?_, fun p enabled mode policy h4 h5 h6 h7 h8 h9 => ?_⟩
  · refine hexec.trans ?_
    rw [portConfigBody, portOf_none h4]
    rfl
  · obtain ⟨p, hp⟩ := portOf_some h4
    refine hexec.trans ?_
    simp only [portConfigBody, hp]
    rw [if_pos (show 1 < s.arg 5 1 from h5)]
    rfl
  · obtain ⟨p, hp⟩ := portOf_some h4
    refine hexec.trans ?_
    simp only [portConfigBody, hp, modeOf_none h6]
    rw [if_neg (Nat.not_lt.mpr h5)]
    rfl
  · obtain ⟨p, hp⟩ := portOf_some h4
    obtain ⟨mode, hmode⟩ := modeOf_some h6
    refine hexec.trans ?_
    simp only [portConfigBody, hp, hmode, policyOf_none h7]
    rw [if_neg (Nat.not_lt.mpr h5)]
    rfl
  · obtain ⟨p, hp⟩ := portOf_some h4
    obtain ⟨mode, hmode⟩ := modeOf_some h6
    obtain ⟨policy, hpolicy⟩ := policyOf_some h7
    refine hexec.trans ?_
    simp only [portConfigBody, hp, hmode, hpolicy]
    rw [if_neg (Nat.not_lt.mpr h5), if_pos h8]
    rfl
  · obtain ⟨p, hp⟩ := portOf_some h4
    obtain ⟨mode, hmode⟩ := modeOf_some h6
    obtain ⟨policy, hpolicy⟩ := policyOf_some h7
    refine hexec.trans ?_
    simp only [portConfigBody, hp, hmode, hpolicy]
    rw [if_neg (Nat.not_lt.mpr h5), if_neg h8, if_pos h9]
    rfl
  · intro config unset same active misfit
    have hp : portOf (s.arg 4 1) = some p := h4 ▸ portOf_portCode p
    have hmode : modeOf (s.arg 6 1) = some mode := h6 ▸ modeOf_code mode
    have hpolicy : policyOf (s.arg 7 1) = some policy := h7 ▸ policyOf_code policy
    have henabled : (s.arg 5 1 == 1) = enabled := by rw [h5]; cases enabled <;> rfl
    have hbody : portConfigBody s = s.configure p config := by
      simp only [portConfigBody, hp, hmode, hpolicy]
      rw [if_neg (by rw [h5]; cases enabled <;> decide), if_neg h8, if_neg h9, henabled, State.argTemplate_eq]
    rw [State.configure_eq] at hbody
    refine ⟨fun hunset => ?_, fun hset hactive => ?_, fun hset hidle hmisfit => ?_, fun hset hidle hfit => ?_⟩
    · refine hexec.trans ?_
      rw [hbody, if_pos hunset]
      rfl
    · rw [hexec, hbody, if_neg hset, if_pos hactive]
    · refine hexec.trans ?_
      rw [hbody, if_neg hset, if_neg hidle, if_pos hmisfit]
      rfl
    · rw [hexec, hbody, if_neg hset, if_neg hidle, if_neg hfit]
      rfl

end Sys2Proof.Machine
end

section
/-! PROOFS. SET_CONFIG: the first entry in error, and what the entries leave (R175, R176): O41. -/

namespace Sys2Proof.Machine

/-! ### The first entry in error (R176) -/

/-- Entry `i` passes its checks: a parameter within its values that no earlier entry and none of `before` names. -/
def EntryGood (before : List Nat) (es : List ConfigEntry) (i : Nat) : Prop :=
  ∃ e, es[i]? = some e ∧ e.inRange = true ∧ e.parameter ∉ before
    ∧ ∀ j < i, ∀ x, es[j]? = some x → x.parameter ≠ e.parameter

theorem entryGood_zero (before : List Nat) (e : ConfigEntry) (es : List ConfigEntry) :
    EntryGood before (e :: es) 0 ↔ e.inRange = true ∧ e.parameter ∉ before := by
  constructor
  · rintro ⟨x, hx, hrange, hbefore, -⟩
    cases hx
    exact ⟨hrange, hbefore⟩
  · rintro ⟨hrange, hbefore⟩
    exact ⟨e, rfl, hrange, hbefore, fun j hj => absurd hj (Nat.not_lt_zero j)⟩

theorem entryGood_succ (before : List Nat) (e : ConfigEntry) (es : List ConfigEntry) (i : Nat) :
    EntryGood before (e :: es) (i + 1) ↔ EntryGood (e.parameter :: before) es i := by
  constructor
  · rintro ⟨x, hx, hrange, hbefore, hearlier⟩
    refine ⟨x, hx, hrange, ?_, fun j hj y hy => hearlier (j + 1) (Nat.succ_lt_succ hj) y hy⟩
    rw [List.mem_cons, not_or]
    exact ⟨(hearlier 0 (Nat.succ_pos i) e rfl).symm, hbefore⟩
  · rintro ⟨x, hx, hrange, hbefore, hearlier⟩
    rw [List.mem_cons, not_or] at hbefore
    refine ⟨x, hx, hrange, hbefore.2, fun j hj y hy => ?_⟩
    cases j with
    | zero =>
      cases hy
      exact Ne.symm hbefore.1
    | succ j => exact hearlier j (Nat.lt_of_succ_lt_succ hj) y hy

theorem firstBadEntry_cons_good {n : Nat} {before : List Nat} {e : ConfigEntry} {es : List ConfigEntry}
    (h : EntryGood before (e :: es) 0) :
    firstBadEntry n before (e :: es) = firstBadEntry (n + 1) (e.parameter :: before) es := by
  obtain ⟨hrange, hbefore⟩ := (entryGood_zero before e es).mp h
  exact if_pos (by simp [hrange, hbefore])

theorem firstBadEntry_cons_bad {n : Nat} {before : List Nat} {e : ConfigEntry} {es : List ConfigEntry}
    (h : ¬ EntryGood before (e :: es) 0) : firstBadEntry n before (e :: es) = some n := by
  rw [entryGood_zero] at h
  exact if_neg (by simpa using h)

theorem firstBadEntry_of_first {n i : Nat} {before : List Nat} {es : List ConfigEntry} (hi : i < es.length)
    (hbad : ¬ EntryGood before es i) (hgood : ∀ j < i, EntryGood before es j) :
    firstBadEntry n before es = some (n + i) := by
  induction es generalizing n i before with
  | nil => exact absurd hi (Nat.not_lt_zero i)
  | cons e es ih =>
    cases i with
    | zero => exact firstBadEntry_cons_bad hbad
    | succ i =>
      rw [firstBadEntry_cons_good (hgood 0 (Nat.succ_pos i)),
        ih (Nat.lt_of_succ_lt_succ hi) (fun h => hbad ((entryGood_succ before e es i).mpr h))
          fun j hj => (entryGood_succ before e es j).mp (hgood (j + 1) (Nat.succ_lt_succ hj)),
        Nat.add_right_comm, Nat.add_assoc]

theorem firstBadEntry_of_good {n : Nat} {before : List Nat} {es : List ConfigEntry}
    (hgood : ∀ i < es.length, EntryGood before es i) : firstBadEntry n before es = none := by
  induction es generalizing n before with
  | nil => rfl
  | cons e es ih =>
    rw [firstBadEntry_cons_good (hgood 0 (Nat.succ_pos _))]
    exact ih fun i hi => (entryGood_succ before e es i).mp (hgood (i + 1) (Nat.succ_lt_succ hi))

/-! ### What an entry sets (R175) -/

/-- The values of the parameters, each at its number. -/
def ConfigSet.values (c : ConfigSet) : List Nat :=
  [0, c.width.toNat, c.height.toNat, c.linkSilence.toNat, c.postedSilence.toNat, c.autoFailover.toNat,
    c.autoReturn.toNat, c.holdLimit.toNat, c.priority.code, c.consecutiveLimit, c.mask.toNat, c.deferLow.toNat]

theorem flag_toNat {v : Nat} (h : v ≤ 1) : (v == 1).toNat = v := by
  match v, h with
  | 0, _ => rfl
  | 1, _ => rfl

theorem priorityOf_code {v : Nat} (h : v ≤ 2) : (priorityOf v).code = v := by
  match v, h with
  | 0, _ => rfl
  | 1, _ => rfl
  | 2, _ => rfl

theorem ofNat_toNat_of_lt {w v : Nat} (h : v < 2 ^ w) : (BitVec.ofNat w v).toNat = v := by
  rw [BitVec.toNat_ofNat, Nat.mod_eq_of_lt h]

/-- An entry within its parameter's values sets that parameter and no other. -/
theorem ConfigSet.values_apply (c : ConfigSet) {n v : Nat} (h : parameterAllows n v) :
    (c.apply ⟨n, v⟩).values = c.values.set n v := by
  rcases h with ⟨rfl, h⟩ | ⟨rfl, h⟩ | ⟨rfl, h⟩ | ⟨rfl, h⟩ | ⟨rfl, h⟩ | ⟨rfl, h⟩ | ⟨rfl, h⟩ | ⟨rfl, h⟩ | ⟨rfl, h⟩
    | ⟨rfl, h⟩ | ⟨rfl, h⟩
  · exact congrArg (c.values.set 1) (ofNat_toNat_of_lt (v := v) (by omega))
  · exact congrArg (c.values.set 2) (ofNat_toNat_of_lt (v := v) (by omega))
  · exact congrArg (c.values.set 3) (ofNat_toNat_of_lt (v := v) (by omega))
  · exact congrArg (c.values.set 4) (ofNat_toNat_of_lt (v := v) (by omega))
  · exact congrArg (c.values.set 5) (flag_toNat h)
  · exact congrArg (c.values.set 6) (flag_toNat h)
  · exact congrArg (c.values.set 7) (ofNat_toNat_of_lt (v := v) (by omega))
  · exact congrArg (c.values.set 8) (priorityOf_code h)
  · rfl
  · exact congrArg (c.values.set 10) (ofNat_toNat_of_lt (v := v) (by omega))
  · exact congrArg (c.values.set 11) (flag_toNat h)

section
variable {es : List ConfigEntry}

/-- A parameter that no entry names keeps its value. -/
theorem ConfigSet.values_foldl_other (hes : ∀ e ∈ es, parameterAllows e.parameter e.value) (c : ConfigSet) {n : Nat}
    (h : ∀ e ∈ es, e.parameter ≠ n) : (es.foldl ConfigSet.apply c).values.getD n 0 = c.values.getD n 0 := by
  induction es generalizing c with
  | nil => rfl
  | cons e es ih =>
    obtain ⟨hallows, hes⟩ := List.forall_mem_cons.mp hes
    obtain ⟨hne, h⟩ := List.forall_mem_cons.mp h
    refine (ih hes (c.apply e) h).trans ?_
    rw [show c.apply e = c.apply ⟨e.parameter, e.value⟩ from rfl, c.values_apply hallows,
      List.getD_eq_getElem?_getD, List.getElem?_set_ne hne, ← List.getD_eq_getElem?_getD]

theorem parameterAllows_lt {n v : Nat} (h : parameterAllows n v) : n < 12 := by
  unfold parameterAllows at h
  omega

/-- Entries that name different parameters give each its value. -/
theorem ConfigSet.values_foldl_same (hes : ∀ e ∈ es, parameterAllows e.parameter e.value)
    (hdiffer : es.Pairwise fun a b => a.parameter ≠ b.parameter) (c : ConfigSet) {e : ConfigEntry} (he : e ∈ es) :
    (es.foldl ConfigSet.apply c).values.getD e.parameter 0 = e.value := by
  induction es generalizing c with
  | nil => exact absurd he List.not_mem_nil
  | cons e' es ih =>
    obtain ⟨hallows, hrest⟩ := List.forall_mem_cons.mp hes
    obtain ⟨hfirst, hrestDiffer⟩ := List.pairwise_cons.mp hdiffer
    rcases List.mem_cons.mp he with heq | he
    · subst heq
      refine (ConfigSet.values_foldl_other (es := es) hrest (c.apply e) fun x hx => (hfirst x hx).symm).trans ?_
      rw [show c.apply e = c.apply ⟨e.parameter, e.value⟩ from rfl, c.values_apply hallows,
        List.getD_eq_getElem?_getD, List.getElem?_set_self (show e.parameter < 12 from parameterAllows_lt hallows)]
      rfl
    · exact ih hrest hrestDiffer (c.apply e') he

end

/-! ### The command (R176) -/

theorem exec_setConfig {s : State} {length : Nat} (h : s.handed 0x01 length) :
    exec .setConfig s = .next (setConfigBody s) :=
  congrArg Host.Outcome.next (s.runCommand_byArguments setConfigBody h rfl)

theorem State.configEntries_length (s : State) : s.configEntries.length = (s.cmdLength - 4) / 4 := by
  rw [State.configEntries, List.length_map, List.length_range]

theorem State.configEntries_getElem? (s : State) {i : Nat} (h : i < (s.cmdLength - 4) / 4) :
    s.configEntries[i]? = some ⟨s.arg (4 + 4 * i) 1, s.arg (5 + 4 * i) 3⟩ := by
  rw [State.configEntries, List.getElem?_map, List.getElem?_range h]
  rfl

theorem State.mem_configEntries (s : State) (e : ConfigEntry) :
    e ∈ s.configEntries ↔ ∃ i < (s.cmdLength - 4) / 4, e = ⟨s.arg (4 + 4 * i) 1, s.arg (5 + 4 * i) 3⟩ := by
  simp only [State.configEntries, List.mem_map, List.mem_range, eq_comm]

theorem State.anyEnabled_iff (s : State) : s.anyEnabled = true ↔ ∃ p, (s.port p).config.enabled = true := by
  rw [State.anyEnabled, Bool.or_eq_true]
  constructor
  · rintro (h | h)
    · exact ⟨.mp0, h⟩
    · exact ⟨.mp1, h⟩
  · rintro ⟨p, h⟩
    cases p with
    | mp0 => exact .inl h
    | mp1 => exact .inr h

/-- Settles O41: the length, the first entry in error, W and H against the ports, then the entries applied. -/
theorem setConfigAppliesEveryEntryOrNone : Obligations.SetConfigAppliesEveryEntryOrNone := by
  rintro s ⟨length, h⟩
  intro n number value allowed good resizes enabled shown
  have hexec := exec_setConfig h
  have hgood : ∀ i < n, (EntryGood [] s.configEntries i ↔ good i) := by
    intro i hi
    have hentry := s.configEntries_getElem? hi
    constructor
    · rintro ⟨e, he, hrange, -, hearlier⟩
      cases hentry.symm.trans he
      refine ⟨(ConfigEntry.inRange_iff _).mp hrange, fun j hj => ?_⟩
      exact hearlier j hj _ (s.configEntries_getElem? (hj.trans hi))
    · rintro ⟨hallowed, hearlier⟩
      refine ⟨_, hentry, (ConfigEntry.inRange_iff _).mpr hallowed, List.not_mem_nil, fun j hj x hx => ?_⟩
      cases (s.configEntries_getElem? (hj.trans hi)).symm.trans hx
      exact hearlier j hj
  have hresizes : s.configEntries.any s.config.changesArray = true ↔ resizes := by
    rw [List.any_eq_true]
    constructor
    · rintro ⟨e, he, hchanges⟩
      obtain ⟨i, hi, rfl⟩ := (s.mem_configEntries e).mp he
      exact ⟨i, hi, by simpa [ConfigSet.changesArray] using hchanges⟩
    · rintro ⟨i, hi, hchanges⟩
      exact ⟨_, (s.mem_configEntries _).mpr ⟨i, hi, rfl⟩, by simpa [ConfigSet.changesArray] using hchanges⟩
  have hbody : (s.cmdLength - 4) % 4 = 0 → 1 ≤ n → setConfigBody s =
      (firstBadEntry 1 [] s.configEntries).elim
        (if s.anyEnabled && s.configEntries.any s.config.changesArray then s.respond .portActive []
          else ({ s with config := s.configEntries.foldl ConfigSet.apply s.config }).respond .ok
            [BitVec.ofNat 8 s.configEntries.length])
        s.badArgument := fun hwhole hsome => by
    have hn : 1 ≤ (s.cmdLength - 4) / 4 := hsome
    rw [setConfigBody, if_neg (by omega)]
    dsimp only
    cases firstBadEntry 1 [] s.configEntries <;> rfl
  refine ⟨fun hlength => ?_, fun hwhole i hi hbad hfirst => ?_, fun hwhole hsome hall => ?_⟩
  · have hshort : n = 0 → s.cmdLength < 8 := fun hn => by
      have hn : (s.cmdLength - 4) / 4 = 0 := hn
      omega
    rw [hexec, setConfigBody, if_pos (hlength.imp_right hshort)]
    rfl
  · have hfirstBad : firstBadEntry 1 [] s.configEntries = some (1 + i) :=
      firstBadEntry_of_first (by rw [State.configEntries_length]; exact hi) (fun he => hbad ((hgood i hi).mp he))
        fun j hj => (hgood j (hj.trans hi)).mpr (hfirst j hj)
    rw [hexec, hbody hwhole (by omega), hfirstBad, Nat.add_comm]
    rfl
  · have hnone : firstBadEntry 1 [] s.configEntries = none :=
      firstBadEntry_of_good fun i hi => by
        rw [State.configEntries_length] at hi
        exact (hgood i hi).mpr (hall i hi)
    have hchecked := hbody hwhole hsome
    rw [hnone, Option.elim_none] at hchecked
    refine ⟨fun hresize hon => ?_, fun hfree => ?_⟩
    · rw [hexec, hchecked, if_pos]
      rw [Bool.and_eq_true]
      exact ⟨s.anyEnabled_iff.mpr hon, hresizes.mpr hresize⟩
    · have hallows : ∀ e ∈ s.configEntries, parameterAllows e.parameter e.value := fun e he => by
        obtain ⟨i, hi, rfl⟩ := (s.mem_configEntries e).mp he
        exact (hall i hi).1
      have hdiffer : s.configEntries.Pairwise fun a b => a.parameter ≠ b.parameter := by
        refine List.pairwise_map.mpr (List.pairwise_lt_range.imp_of_mem fun {i j} _ hj hij => ?_)
        exact (hall j (List.mem_range.mp hj)).2 i hij
      refine ⟨s.configEntries.foldl ConfigSet.apply s.config, ?_, fun i hi => ?_, fun parameter hother => ?_⟩
      · rw [hexec, hchecked, if_neg, State.configEntries_length]
        rw [Bool.and_eq_true, s.anyEnabled_iff, hresizes]
        exact fun hboth => hfree hboth.symm
      · exact ConfigSet.values_foldl_same hallows hdiffer s.config ((s.mem_configEntries _).mpr ⟨i, hi, rfl⟩)
      · refine ConfigSet.values_foldl_other hallows s.config fun e he => ?_
        obtain ⟨i, hi, rfl⟩ := (s.mem_configEntries e).mp he
        exact hother i hi

end Sys2Proof.Machine
end

section
/-! PROOFS. The bytes of numbers in responses (R192), and the layouts of R177, R178, R197 with their lengths. -/

namespace Sys2Proof.Machine

/-! ### Numbers in bytes, most significant first (R192) -/

/-- `n` in `k` bytes. -/
def numBytes (k n : Nat) : List Byte := (List.range k).map fun i => BitVec.ofNat 8 (n / 256 ^ (k - 1 - i))

theorem extractLsb'_ofNat_byte {w : Nat} (n i : Nat) (h : 8 * i + 8 ≤ w) :
    (BitVec.ofNat w n).extractLsb' (8 * i) 8 = BitVec.ofNat 8 (n / 256 ^ i) := by
  apply BitVec.eq_of_getLsbD_eq
  intro j hj
  have hpow : (256 : Nat) ^ i = 2 ^ (8 * i) := by rw [Nat.pow_mul]
  simp only [BitVec.getLsbD_extractLsb', BitVec.getLsbD_ofNat, hj, decide_true, Bool.true_and, hpow,
    Nat.testBit_div_two_pow, show 8 * i + j < w by omega]
  rw [Nat.add_comm]

theorem numBytes_one (n : Nat) : numBytes 1 n = [byteOf n] := by
  simp [numBytes, byteOf]

theorem numBytes_two (n : Nat) : numBytes 2 n = bytes16 (BitVec.ofNat 16 n) := by
  refine congrArg₂ List.cons ?_ (congrArg₂ List.cons ?_ rfl)
  · exact (extractLsb'_ofNat_byte n 1 (by decide)).symm
  · exact (extractLsb'_ofNat_byte n 0 (by decide)).symm

theorem numBytes_three (n : Nat) : numBytes 3 n = bytes24 (BitVec.ofNat 24 n) := by
  refine congrArg₂ List.cons ?_ (congrArg₂ List.cons ?_ (congrArg₂ List.cons ?_ rfl))
  · exact (extractLsb'_ofNat_byte n 2 (by decide)).symm
  · exact (extractLsb'_ofNat_byte n 1 (by decide)).symm
  · exact (extractLsb'_ofNat_byte n 0 (by decide)).symm

theorem numBytes_four (n : Nat) : numBytes 4 n = bytes32 (BitVec.ofNat 32 n) := by
  refine congrArg₂ List.cons ?_ (congrArg₂ List.cons ?_ (congrArg₂ List.cons ?_ (congrArg₂ List.cons ?_ rfl)))
  · exact (extractLsb'_ofNat_byte n 3 (by decide)).symm
  · exact (extractLsb'_ofNat_byte n 2 (by decide)).symm
  · exact (extractLsb'_ofNat_byte n 1 (by decide)).symm
  · exact (extractLsb'_ofNat_byte n 0 (by decide)).symm

theorem byteOf_toNat (b : Byte) : byteOf b.toNat = b :=
  (BitVec.ofNat_toNat 8 b).trans (BitVec.setWidth_eq b)

theorem bytes32_toNat (w : Word) : bytes32 w = numBytes 4 w.toNat := by
  rw [numBytes_four, BitVec.ofNat_toNat, BitVec.setWidth_eq]

/-- Two halves in a word. -/
theorem bytes32_halves (x y : Half) : bytes32 (x ++ y) = bytes16 x ++ bytes16 y := by
  refine congrArg₂ List.cons ?_ (congrArg₂ List.cons ?_ (congrArg₂ List.cons ?_ (congrArg₂ List.cons ?_ rfl)))
  · exact BitVec.extractLsb'_append_eq_of_le (by decide)
  · exact BitVec.extractLsb'_append_eq_of_le (by decide)
  · exact BitVec.extractLsb'_append_eq_of_add_le (by decide)
  · exact BitVec.extractLsb'_append_eq_of_add_le (by decide)

theorem toNat_append_add {n m : Nat} (x : BitVec n) (y : BitVec m) : (x ++ y).toNat = x.toNat * 2 ^ m + y.toNat := by
  rw [BitVec.toNat_append, ← Nat.shiftLeft_add_eq_or_of_lt y.isLt, Nat.shiftLeft_eq]

theorem ofBool_toNat (b : Bool) : (BitVec.ofBool b).toNat = b.toNat := by cases b <;> rfl

/-! ### A template (R193, R196) -/

theorem fillMode_code_lt (m : FillMode) : m.code < 3 := by cases m <;> decide

/-- The options word of a template, byte for byte (R193). -/
theorem bytes32_options (gen : Byte) (step : BitVec 2) (fill : Nat) (hfill : fill < 3) (a b c d e : Bool) :
    bytes32 (gen ++ step ++ BitVec.ofNat 2 fill ++ 0#15 ++ BitVec.ofBool a ++ BitVec.ofBool b ++ BitVec.ofBool c
        ++ BitVec.ofBool d ++ BitVec.ofBool e)
      = [gen, byteOf (64 * step.toNat + 16 * fill), 0,
        byteOf (16 * a.toNat + 8 * b.toNat + 4 * c.toNat + 2 * d.toNat + e.toNat)] := by
  have hnat : (gen ++ step ++ BitVec.ofNat 2 fill ++ 0#15 ++ BitVec.ofBool a ++ BitVec.ofBool b ++ BitVec.ofBool c
        ++ BitVec.ofBool d ++ BitVec.ofBool e).toNat
      = (256 * gen.toNat + (64 * step.toNat + 16 * fill)) * 65536
        + (16 * a.toNat + 8 * b.toNat + 4 * c.toNat + 2 * d.toNat + e.toNat) := by
    simp only [toNat_append_add, ofBool_toNat, BitVec.toNat_ofNat]
    omega
  have hgen := gen.isLt
  have hstep := step.isLt
  have hflags : 16 * a.toNat + 8 * b.toNat + 4 * c.toNat + 2 * d.toNat + e.toNat < 32 := by
    have := a.toNat_le
    have := b.toNat_le
    have := c.toNat_le
    have := d.toNat_le
    have := e.toNat_le
    omega
  have hbyte : ∀ n m : Nat, n % 256 = m % 256 → BitVec.ofNat 8 n = BitVec.ofNat 8 m := fun n m h =>
    BitVec.eq_of_toNat_eq (by simpa using h)
  rw [bytes32_toNat, hnat]
  generalize 16 * a.toNat + 8 * b.toNat + 4 * c.toNat + 2 * d.toNat + e.toNat = flags at hflags ⊢
  refine congrArg₂ List.cons ?_ (congrArg₂ List.cons ?_ (congrArg₂ List.cons ?_ (congrArg₂ List.cons ?_ rfl)))
  · exact (hbyte _ gen.toNat (show _ / 16777216 % 256 = _ by omega)).trans (byteOf_toNat gen)
  · exact hbyte _ _ (show _ / 65536 % 256 = _ by omega)
  · exact hbyte _ 0 (show _ / 256 % 256 = _ by omega)
  · exact hbyte _ _ (show _ / 1 % 256 = _ by omega)

/-- A template as R196 has it. -/
theorem RequestFields.toBytes_eq (f : RequestFields) :
    f.toBytes =
      numBytes 2 f.tag.toNat ++ numBytes 2 f.frame.toNat ++ numBytes 1 f.expectedGen.toNat
        ++ numBytes 1 (64 * f.stepCode.toNat + 16 * f.fillMode.code) ++ [0]
        ++ numBytes 1 (16 * f.latest.toNat + 8 * f.requireProfile.toNat + 4 * f.strictGen.toNat + 2 * f.waitCover.toNat
          + f.rgb.toNat)
        ++ numBytes 2 f.x0.toNat ++ numBytes 2 f.y0.toNat ++ numBytes 2 f.width.toNat ++ numBytes 2 f.height.toNat
        ++ [0, 0] ++ numBytes 2 f.lineTime.toNat ++ numBytes 4 f.exposure.toNat ++ numBytes 4 f.fixedFill.toNat
        ++ [0, 0, 0, 0] := by
  simp only [RequestFields.toBytes, RequestFields.toWords, List.flatMap_cons, List.flatMap_nil, bytes32_halves,
    bytes32_options _ _ _ (fillMode_code_lt _), numBytes_one, numBytes_two, numBytes_four, BitVec.ofNat_toNat,
    BitVec.setWidth_eq, byteOf_toNat, List.append_assoc, List.cons_append, List.nil_append]
  rfl

/-! ### Lengths -/

@[simp] theorem bytes16_length (x : Half) : (bytes16 x).length = 2 := rfl

@[simp] theorem bytes24_length (x : BitVec 24) : (bytes24 x).length = 3 := rfl

@[simp] theorem bytes32_length (x : Word) : (bytes32 x).length = 4 := rfl

/-- A list of records of one length. -/
theorem flatMap_length_of_const {α : Type} {f : α → List Byte} {k : Nat} (h : ∀ x, (f x).length = k) (l : List α) :
    (l.flatMap f).length = k * l.length := by
  induction l with
  | nil => rfl
  | cons x l ih => rw [List.flatMap_cons, List.length_append, h, ih, List.length_cons, Nat.mul_succ, Nat.add_comm]

@[simp] theorem ConfigSet.toBytes_length (c : ConfigSet) : c.toBytes.length = 33 := rfl

@[simp] theorem RequestFields.toBytes_length (f : RequestFields) : f.toBytes.length = 32 := rfl

@[simp] theorem PortConfig.toBytes_length (c : PortConfig) : c.toBytes.length = 37 := by
  simp [PortConfig.toBytes]

@[simp] theorem padded_length (n : Nat) (bs : List Byte) : (padded n bs).length = n := by
  simp [padded]

@[simp] theorem StrobeUnit.detail_length (u : StrobeUnit) : u.detail.length = 64 := by
  simp [StrobeUnit.detail]

theorem Request.detail_length (r : Request) : r.detail.length = 6 := rfl

/-- The four slot entries, those beyond the occupied ones of 0xFF and zeros (R197). -/
theorem slotEntries_length (l : List Request) :
    ((l.map Request.detail ++ List.replicate 4 noRequestDetail).take 4).flatten.length = 24 := by
  have hsix : ∀ x ∈ (l.map Request.detail ++ List.replicate 4 noRequestDetail).take 4, x.length = 6 := by
    intro x hx
    rcases List.mem_append.mp (List.mem_of_mem_take hx) with hx | hx
    · obtain ⟨r, -, rfl⟩ := List.mem_map.mp hx
      exact r.detail_length
    · rw [List.eq_of_mem_replicate hx]
      rfl
  rw [List.length_flatten, List.map_congr_left hsix, List.map_const', List.sum_replicate, List.length_take,
    List.length_append, List.length_replicate, Nat.min_eq_left (Nat.le_add_left 4 _)]
  rfl

@[simp] theorem MeshPort.detail_length (q : MeshPort) : q.detail.length = 31 := by
  simp only [MeshPort.detail, List.length_append, slotEntries_length, bytes16_length, List.length_cons,
    List.length_nil]

@[simp] theorem meshDetail_length (now : Word) (m : Option Mesh) : (meshDetail now m).length = 20 := by
  cases m with
  | none => rfl
  | some m => rfl

theorem State.statusDetail_length (s : State) : s.statusDetail.length = 241 := by
  simp [State.statusDetail, LinkReceiver.detail, State.trackerDetail, State.storeDetail, State.engineDetail]

theorem State.slotEntry_length (s : State) (k : Fin 16) : (s.slotEntry k).length = 7 := by
  rw [State.slotEntry]
  cases s.profile? k <;> rfl

theorem Entry.toBytes_length (e : Entry) : e.toBytes.length = 14 := rfl

@[simp] theorem State.recordBytes_length (s : State) : s.recordBytes.length = 14 := by
  rw [State.recordBytes]
  cases s.lst.record <;> rfl

theorem CoeffSet.toBytes_length (c : CoeffSet) : c.toBytes.length = 24 := rfl

theorem ProfileHeader.toBytes_length (h : ProfileHeader) (generation : Byte) :
    (h.toBytes generation).length = 17 + 2 * (h.focals.length + h.focuses.length) := by
  simp only [ProfileHeader.toBytes, List.length_append, bytes32_length, bytes16_length, List.length_cons,
    List.length_nil, flatMap_length_of_const (f := bytes16) (k := 2) (fun _ => rfl),
    flatMap_length_of_const (f := fun u : BitVec 12 => bytes16 (u.setWidth 16)) (k := 2) (fun _ => rfl)]
  omega

end Sys2Proof.Machine
end

section
/-! PROOFS. The commands that read: GET_CONFIG, GET_STATUS_DETAIL, LIST_PROFILES, READ_TIMELINE, PROFILE_READ (R40 to
R42, R90, R177, R178, R197): O46. -/

namespace Sys2Proof.Machine

theorem numBytes_two_bits (x : Half) : numBytes 2 x.toNat = bytes16 x := by
  rw [numBytes_two, BitVec.ofNat_toNat, BitVec.setWidth_eq]

theorem numBytes_three_bits (x : BitVec 24) : numBytes 3 x.toNat = bytes24 x := by
  rw [numBytes_three, BitVec.ofNat_toNat, BitVec.setWidth_eq]

theorem numBytes_one_bits (x : Byte) : numBytes 1 x.toNat = [x] := by rw [numBytes_one, byteOf_toNat]

theorem numBytes_four_bits (x : Word) : numBytes 4 x.toNat = bytes32 x := (bytes32_toNat x).symm

/-! ### The layouts, numbers in bytes (R177, R178, R197) -/

theorem ConfigSet.toBytes_eq (c : ConfigSet) :
    c.toBytes =
      [c.width.toNat, c.height.toNat, c.linkSilence.toNat, c.postedSilence.toNat, c.autoFailover.toNat,
        c.autoReturn.toNat, c.holdLimit.toNat, c.priority.code, c.consecutiveLimit, c.mask.toNat,
        c.deferLow.toNat].flatMap (numBytes 3) := by
  rw [ConfigSet.toBytes, funext numBytes_three]

theorem PortConfig.toBytes_eq (c : PortConfig) :
    c.toBytes =
      [boolByte c.enabled] ++ numBytes 1 c.mode.code ++ numBytes 1 c.policy.code ++ numBytes 1 c.waitLimit.toNat
        ++ numBytes 1 c.stallLimit.toNat ++ c.template.toBytes := by
  rw [numBytes_one_bits, numBytes_one_bits, numBytes_one, numBytes_one]
  rfl

theorem StrobeUnit.detail_eq (u : StrobeUnit) :
    u.detail =
      numBytes 2 u.counter.toNat ++ ([boolByte u.lock.isLocked] ++ numBytes 4 u.lock.figure)
        ++ numBytes 1 u.table.length
        ++ ((u.table.flatMap fun (r : StrobeRecord) =>
              numBytes 2 r.frame.toNat ++ numBytes 4 r.time.toNat ++ [boolByte r.offPeriod])
          ++ List.replicate 56 0).take 56 := by
  simp only [numBytes_two_bits, numBytes_four, numBytes_one, BitVec.ofNat_toNat, BitVec.setWidth_eq]
  rfl

/-- The frame number of a strobe copy, 0 where there is none (R197). -/
def frameBytes : Option StrobeCopy → List Byte
  | none => [0, 0]
  | some c => numBytes 2 c.frame.toNat

theorem bytes16_frame (c : Option StrobeCopy) : bytes16 ((c.map (·.frame)).getD 0) = frameBytes c := by
  cases c with
  | none => rfl
  | some c => exact (numBytes_two_bits c.frame).symm

/-- Whether a stall timer runs, and its time remaining (R161). -/
def stallBytes (now : Word) : Option Word → List Byte
  | none => [0, 0, 0, 0, 0]
  | some t => [1] ++ numBytes 4 (t - now).toNat

theorem stall_eq (now : Word) (t : Option Word) :
    [boolByte t.isSome] ++ bytes32 (timeRemaining now t) = stallBytes now t := by
  cases t with
  | none => exact (by decide : (0 : Byte) :: bytes32 0 = [0, 0, 0, 0, 0])
  | some t => exact congrArg ([1] ++ ·) (bytes32_toNat (t - now))

theorem Request.detail_eq (r : Request) :
    r.detail =
      numBytes 1 r.slot.val ++ numBytes 1 r.state.code ++ numBytes 2 r.fields.tag.toNat ++ frameBytes r.strobe := by
  rw [numBytes_two_bits, numBytes_one, numBytes_one, ← bytes16_frame]
  rfl

theorem MeshPort.reservations_eq (q : MeshPort) :
    q.reservations = q.slots.length + if q.gathered = [] then 0 else 1 := by
  rw [MeshPort.reservations]
  cases q.gathered <;> rfl

theorem MeshPort.detail_eq (q : MeshPort) :
    q.detail =
      numBytes 1 q.slots.length
        ++ ((q.slots.map Request.detail ++ List.replicate 4 [0xFF, 0, 0, 0, 0, 0]).take 4).flatten
        ++ numBytes 1 q.replies.length ++ numBytes 1 (q.slots.length + if q.gathered = [] then 0 else 1)
        ++ numBytes 2 q.fifo.length ++ numBytes 2 q.dropped.toNat := by
  rw [numBytes_two_bits, numBytes_two, numBytes_one, numBytes_one, numBytes_one, ← MeshPort.reservations_eq,
    MeshPort.detail]
  simp only [List.append_assoc]
  rfl

theorem meshDetail_eq (now : Word) (m : Mesh) :
    meshDetail now (some m) =
      numBytes 1 (portCode m.port) ++ numBytes 2 m.request.fields.tag.toNat ++ frameBytes m.request.strobe
        ++ [slotByte m.binding.slot] ++ numBytes 2 m.epoch.toNat ++ numBytes 1 m.cursor ++ numBytes 2 m.nodes
        ++ numBytes 2 m.saturated ++ numBytes 1 m.flagged ++ [boolByte m.epochChanged]
        ++ stallBytes now m.stallTimer := by
  simp only [numBytes_two, numBytes_one, ← bytes16_frame, ← stall_eq, meshDetail]
  simp only [BitVec.ofNat_toNat, BitVec.setWidth_eq, List.append_assoc]
  rfl

theorem CoeffSet.toBytes_eq (c : CoeffSet) :
    c.toBytes = [c.k1, c.k2, c.k3, c.aR0, c.aR1, c.aB0, c.aB1, c.fill].flatMap fun x => numBytes 3 x.toNat := by
  rw [CoeffSet.toBytes, funext numBytes_three_bits]

theorem Entry.toBytes_eq (e : Entry) :
    e.toBytes =
      numBytes 4 e.tFirst.toNat ++ numBytes 4 e.tLast.toNat ++ numBytes 2 e.focal.toNat ++ numBytes 2 e.focus.toNat
        ++ numBytes 1 e.converter.toNat ++ numBytes 1 e.source.code := by
  simp only [numBytes_four, numBytes_two, numBytes_one, BitVec.ofNat_toNat, BitVec.setWidth_eq, Entry.toBytes, byteOf,
    List.append_assoc, List.cons_append, List.nil_append]

theorem LensRecord.toBytes_eq (r : LensRecord) :
    r.toBytes =
      numBytes 4 r.lensId.toNat ++ numBytes 2 r.firmware.toNat ++ numBytes 2 r.focalMin.toNat
        ++ numBytes 2 r.focalMax.toNat ++ numBytes 1 r.converter.toNat ++ numBytes 1 r.presence.code
        ++ numBytes 2 r.epoch.toNat := by
  simp only [← bytes32_toNat, numBytes_two_bits, numBytes_one, BitVec.ofNat_toNat, LensRecord.toBytes,
    byteOf, List.append_assoc, List.cons_append, List.nil_append]

theorem ProfileHeader.toBytes_eq (h : ProfileHeader) (generation : Byte) :
    h.toBytes generation =
      numBytes 4 h.lensId.toNat ++ numBytes 1 h.converter.toNat ++ [boolByte h.isProtected]
        ++ numBytes 1 generation.toNat ++ numBytes 4 h.rn16.toNat ++ numBytes 2 h.ox.toNat ++ numBytes 2 h.oy.toNat
        ++ numBytes 1 h.focals.length ++ numBytes 1 h.focuses.length
        ++ (h.focals.flatMap fun x => numBytes 2 x.toNat) ++ h.focuses.flatMap fun x => numBytes 2 x.toNat := by
  simp only [numBytes_two, numBytes_one, numBytes_four, BitVec.ofNat_toNat,
    ProfileHeader.toBytes, BitVec.setWidth_eq, byteOf, List.append_assoc, List.cons_append, List.nil_append]

theorem State.slotEntry_eq (s : State) (k : Fin 16) :
    s.slotEntry k =
      let pending : Nat :=
        if s.store.pendingOp = some (.commit k) ∨ s.store.pendingOp = some (.delete k) then 4 else 0
      match s.profile? k with
      | none => numBytes 1 pending ++ [0, 0, 0, 0, 0] ++ numBytes 1 (s.generation k).toNat
      | some p =>
        numBytes 1 (1 + 2 * p.header.isProtected.toNat + pending) ++ numBytes 4 p.header.lensId.toNat
          ++ numBytes 1 p.header.converter.toNat ++ numBytes 1 (s.generation k).toNat := by
  have hop : s.store.pendingOp.map StoreOp.slot = some k ↔
      (s.store.pendingOp = some (.commit k) ∨ s.store.pendingOp = some (.delete k)) := by
    rcases s.store.pendingOp with _ | j | j <;> simp [StoreOp.slot]
  simp only [State.slotEntry, hop]
  cases s.profile? k with
  | none => simp only [numBytes_one, byteOf_toNat, List.cons_append, List.nil_append]
  | some p =>
    simp only [numBytes_one, ← bytes32_toNat, byteOf, BitVec.ofNat_toNat, List.append_assoc,
      List.cons_append, List.nil_append, BitVec.setWidth_eq]

theorem State.statusDetail_eq (s : State) :
    s.statusDetail =
      [byteOf s.cp.resetCause.code]
        ++ numBytes 2 s.llr.checkErrors.toNat ++ numBytes 2 s.llr.gaps.toNat ++ numBytes 2 s.llr.malformed.toNat
        ++ numBytes 1 s.llr.good
        ++ numBytes 1 s.trackerState.code ++ numBytes 1 s.lst.source.code
        ++ numBytes 1 (s.llr.fresh.toNat + 2 * s.lst.postedFresh.toNat) ++ numBytes 2 s.lst.epoch.toNat
        ++ numBytes 1 s.lst.timeline.length ++ numBytes 2 s.lst.late.toNat ++ numBytes 2 s.lst.clamps.toNat
        ++ numBytes 2 s.lst.ignored.toNat
        ++ (s.tsu.get .mp0).detail ++ (s.tsu.get .mp1).detail
        ++ (s.port .mp0).detail ++ (s.port .mp1).detail
        ++ numBytes 1 s.store.staging.code
        ++ [byteOf (pendingCode s.store.pendingOp), slotByte (s.store.pendingOp.map StoreOp.slot)]
        ++ [slotByte s.store.boundSlot] ++ [slotByte s.lst.override]
        ++ numBytes 1 s.me.runState.code ++ numBytes 1 (portCode s.me.lastGranted) ++ numBytes 1 s.me.consecutive
        ++ ([boolByte s.me.mesh.isSome] ++ meshDetail s.time s.me.mesh)
        ++ numBytes 1 s.eu.queue.length ++ [boolByte s.eu.overflow] := by
  simp only [numBytes_two_bits, numBytes_one, State.statusDetail, LinkReceiver.detail, State.trackerDetail,
    State.storeDetail, State.engineDetail, List.append_assoc, List.cons_append, List.nil_append]
  rfl

/-! ### The commands, each answered with its layout -/

theorem exec_getConfig {s : State} (h : s.handed 0x02 4) :
    exec .getConfig s =
      .next (s.respond .ok (s.config.toBytes ++ (s.port .mp0).config.toBytes ++ (s.port .mp1).config.toBytes)) :=
  congrArg Host.Outcome.next (s.runCommand_fixed _ h rfl)

theorem exec_getStatusDetail {s : State} (h : s.handed 0x03 4) :
    exec .getStatusDetail s = .next (s.respond .ok s.statusDetail) :=
  congrArg Host.Outcome.next (s.runCommand_fixed _ h rfl)

theorem exec_listProfiles {s : State} (h : s.handed 0x26 4) :
    exec .listProfiles s =
      .next (s.respond .ok ([byteOf s.store.staging.code, slotByte s.lst.override, slotByte s.store.boundSlot]
        ++ (List.finRange 16).flatMap s.slotEntry)) :=
  congrArg Host.Outcome.next (s.runCommand_fixed _ h rfl)

theorem exec_readTimeline {s : State} (h : s.handed 0x14 5) : exec .readTimeline s = .next (readTimelineBody s) :=
  congrArg Host.Outcome.next (s.runCommand_fixed _ h rfl)

theorem exec_profileRead {s : State} (h : s.handed 0x25 7) : exec .profileRead s = .next (profileReadBody s) :=
  congrArg Host.Outcome.next (s.runCommand_fixed _ h rfl)

theorem CoeffSet.hidden_toBytes : CoeffSet.hidden.toBytes = List.replicate 24 0xFF#8 := by decide

theorem flatMap_replicate_const {α : Type} (n : Nat) (b : Byte) (l : List α) :
    (l.flatMap fun _ => List.replicate n b) = List.replicate (n * l.length) b := by
  induction l with
  | nil => rfl
  | cons x l ih =>
    rw [List.flatMap_cons, ih, List.replicate_append_replicate, List.length_cons, Nat.mul_succ, Nat.add_comm]

/-- The sets PROFILE_READ returns, 0xFF in every byte of a protected profile (R40). -/
theorem Profile.readSets_eq {p : Profile} {first count : Nat} (hfit : first + count ≤ p.table.length) :
    p.readSets first count =
      if p.header.isProtected then List.replicate (24 * count) 0xFF#8
      else ((p.table.drop first).take count).flatMap CoeffSet.toBytes := by
  have hlen : ((p.table.drop first).take count).length = count := by
    rw [List.length_take, List.length_drop]; omega
  rw [Profile.readSets]
  cases p.header.isProtected with
  | false => rfl
  | true =>
    simp only [if_true, CoeffSet.hidden_toBytes]
    rw [flatMap_replicate_const, hlen]

theorem profileReadBody_badSlot {s : State} (h : 16 ≤ s.arg 4 1) :
    profileReadBody s = s.respond .badArgument [1] := by
  rw [profileReadBody, slotOf?_eq_none h]
  rfl

theorem profileReadBody_empty {s : State} {k : Fin 16} (hk : s.arg 4 1 = k.val) (hp : s.profile? k = none) :
    profileReadBody s = s.respond .notFound [] := by
  rw [profileReadBody, hk, slotOf?_val]
  simp only [hp]

theorem profileReadBody_occupied {s : State} {k : Fin 16} {p : Profile} (hk : s.arg 4 1 = k.val)
    (hp : s.profile? k = some p) :
    profileReadBody s =
      (firstFailing [ (3, decide (s.arg 6 1 ≤ 8)), (2, decide (s.arg 5 1 + s.arg 6 1 ≤ p.header.tableSize)) ]).elim
        (s.respond .ok (p.header.toBytes (s.generation k) ++ p.readSets (s.arg 5 1) (s.arg 6 1))) s.badArgument := by
  rw [profileReadBody, hk, slotOf?_val]
  simp only [hp]
  cases firstFailing [ (3, decide (s.arg 6 1 ≤ 8)), (2, decide (s.arg 5 1 + s.arg 6 1 ≤ p.header.tableSize)) ] <;> rfl

theorem profileReadBody_badCount {s : State} {k : Fin 16} {p : Profile} (hk : s.arg 4 1 = k.val)
    (hp : s.profile? k = some p) (h3 : 9 ≤ s.arg 6 1) : profileReadBody s = s.respond .badArgument [3] := by
  rw [profileReadBody_occupied hk hp, decide_eq_false (by omega : ¬ s.arg 6 1 ≤ 8)]
  rfl

theorem profileReadBody_badFirst {s : State} {k : Fin 16} {p : Profile} (hk : s.arg 4 1 = k.val)
    (hp : s.profile? k = some p) (h3 : s.arg 6 1 ≤ 8) (h2 : p.header.tableSize < s.arg 5 1 + s.arg 6 1) :
    profileReadBody s = s.respond .badArgument [2] := by
  rw [profileReadBody_occupied hk hp, decide_eq_true h3, decide_eq_false (Nat.not_le.2 h2)]
  rfl

theorem profileReadBody_sets {s : State} {k : Fin 16} {p : Profile} (hk : s.arg 4 1 = k.val)
    (hp : s.profile? k = some p) (h3 : s.arg 6 1 ≤ 8) (h2 : s.arg 5 1 + s.arg 6 1 ≤ p.header.tableSize) :
    profileReadBody s =
      s.respond .ok (p.header.toBytes (s.generation k) ++ p.readSets (s.arg 5 1) (s.arg 6 1)) := by
  rw [profileReadBody_occupied hk hp, decide_eq_true h3, decide_eq_true h2]
  rfl

theorem readTimelineBody_beyond {s : State} (h : 128 ≤ s.arg 4 1) :
    readTimelineBody s = s.respond .badArgument [1] := if_pos h

theorem readTimelineBody_entries {s : State} (h : s.arg 4 1 ≤ 127) :
    readTimelineBody s =
      s.respond .ok
        ([byteOf s.trackerState.code, byteOf s.lst.source.code] ++ bytes16 s.lst.epoch
          ++ [boolByte s.lst.record.isSome] ++ s.recordBytes
          ++ [byteOf s.lst.timeline.length, byteOf (s.timelineFrom (s.arg 4 1)).length]
          ++ (s.timelineFrom (s.arg 4 1)).flatMap Entry.toBytes) := if_neg (by omega)

/-- Settles O46: each layout of the statement is the model's, then each command answers with it. -/
theorem readingCommandsChangeNothingElse : Obligations.ReadingCommandsChangeNothingElse := by
  unfold Obligations.ReadingCommandsChangeNothingElse
  intro num flag slot port feed run tracker staging op template portConfig strobes request meshPort mesh set
  have hnum : num = numBytes := rfl
  have hslot : ∀ k, slot k = [slotByte k] := fun k => by
    cases k with
    | none => rfl
    | some k => exact numBytes_one k.val
  have hport : ∀ p, port p = portCode p := fun p => by cases p <;> rfl
  have hfeed : ∀ f, feed f = f.code := fun f => by cases f <;> rfl
  have hrun : ∀ r, run r = r.code := fun r => by cases r <;> rfl
  have htracker : ∀ t, tracker t = t.code := fun t => by cases t <;> rfl
  have hstaging : ∀ x, staging x = x.code := fun x => by cases x <;> rfl
  have hop : ∀ o, op o = [byteOf (pendingCode o), slotByte (o.map StoreOp.slot)] := fun o => by
    rcases o with _ | k | k
    · rfl
    · exact congrArg ([1] ++ ·) (numBytes_one k.val)
    · exact congrArg ([2] ++ ·) (numBytes_one k.val)
  have htemplate : ∀ f, template f = f.toBytes := fun f => by
    rw [RequestFields.toBytes_eq]
    rcases f with ⟨_, _, _, _, fillMode, _⟩
    cases fillMode <;> rfl
  have hportConfig : ∀ c, portConfig c = c.toBytes := fun c => by
    rw [PortConfig.toBytes_eq, ← htemplate]
    rcases c with ⟨enabled, mode, t, policy, wait, stall⟩
    cases mode <;> cases policy <;> rfl
  have hstrobes : ∀ u, strobes u = u.detail := fun u => by
    rw [StrobeUnit.detail_eq]
    rcases u with ⟨counter, table, previous, lock⟩
    cases lock <;> rfl
  have hrequest : ∀ r, request r = r.detail := fun r => by
    rw [Request.detail_eq]
    rcases r with ⟨slot, fields, clamped, nc, nr, strobe, cover, incomplete, timer, state⟩
    cases strobe <;> cases state <;> rfl
  have hmeshPort : ∀ q, meshPort q = q.detail := fun q => by
    rw [MeshPort.detail_eq, ← funext hrequest]
    rfl
  have hmesh : ∀ now x, mesh now x = [boolByte x.isSome] ++ meshDetail now x := fun now x => by
    cases x with
    | none => rfl
    | some m =>
      rw [meshDetail_eq, ← hslot, ← hport]
      rcases m with ⟨p, ⟨rs, f, cl, nc, nr, strobe, cv, ic, w, st⟩, l, e, binding, c, cur, ec, n, sat, fl, u, stall⟩
      cases strobe <;> cases stall <;> rfl
  have hset : ∀ c, set c = c.toBytes := fun c => (c.toBytes_eq).symm
  have hflag : ∀ b, flag b = [boolByte b] := fun _ => rfl
  clear_value num flag slot port feed run tracker staging op template portConfig strobes request meshPort mesh set
  subst hnum
  refine ⟨fun s => ⟨fun h => ⟨_, ?_, ?_, exec_getConfig h⟩, fun h => ⟨_, s.statusDetail_length, ?_,
    exec_getStatusDetail h⟩, fun h => ⟨_, ?_, ?_, exec_listProfiles h⟩, fun h => ⟨fun hbeyond => ?_,
    fun hwithin => ⟨_, ?_, ?_, (exec_readTimeline h).trans (congrArg _ (readTimelineBody_entries hwithin))⟩⟩⟩,
    fun s h hslot => ?_, fun s k h hk => ⟨fun hp => ?_, fun p hp htable => ⟨fun h3 => ?_, fun h3 h2 => ?_,
      fun h3 h2 => ⟨_, (exec_profileRead h).trans
        (congrArg _ (profileReadBody_sets hk hp h3 (le_of_le_of_eq h2 htable))), ?_, ?_⟩⟩⟩⟩
  · simp
  · rw [ConfigSet.toBytes_eq, hportConfig, hportConfig]
    cases s.config.priority <;> rfl
  · rw [State.statusDetail_eq]
    simp only [htracker, hfeed, hstrobes, hmeshPort, hstaging, hop, hslot, hrun, hport, hmesh, hflag]
    cases s.cp.resetCause <;> rfl
  · rw [List.length_append, flatMap_length_of_const s.slotEntry_length, List.length_finRange]
    rfl
  · rw [hstaging, hslot, hslot, numBytes_one]
    exact congrArg (_ ++ List.flatMap · _) (funext s.slotEntry_eq)
  · rw [exec_readTimeline h, readTimelineBody_beyond hbeyond]
  · simp only [List.length_append, flatMap_length_of_const Entry.toBytes_length, State.recordBytes_length,
      bytes16_length, List.length_cons, List.length_nil, State.timelineFrom]
  · simp only [htracker, hfeed, funext Entry.toBytes_eq]
    rw [numBytes_two_bits, numBytes_one, numBytes_one, numBytes_one, numBytes_one, State.recordBytes]
    cases s.lst.record with
    | none => rfl
    | some r =>
      simp only [LensRecord.toBytes_eq]
      cases r.presence <;> simp only [List.append_assoc] <;> rfl
  · rw [exec_profileRead h, profileReadBody_badSlot hslot]
  · rw [exec_profileRead h, profileReadBody_empty hk hp]
  · rw [exec_profileRead h, profileReadBody_badCount hk hp h3]
  · rw [exec_profileRead h, profileReadBody_badFirst hk hp h3 (lt_of_eq_of_lt htable.symm h2)]
  · rw [List.length_append, ProfileHeader.toBytes_length, Profile.readSets, flatMap_length_of_const (k := 24),
      List.length_take, List.length_drop]
    · omega
    · exact fun _ => CoeffSet.toBytes_length _
  · rw [ProfileHeader.toBytes_eq, Profile.readSets_eq h2, hflag, funext hset]

end Sys2Proof.Machine
end

section
/-! PROOFS. PROFILE_OPEN and PROFILE_NODES: their arguments in order and what the staging slot then holds (R29 to R31):
O47. -/

namespace Sys2Proof.Machine

/-! ### Numbered checks -/

open Classical in
/-- Checks numbered one after the other. -/
noncomputable def numberedFrom : Nat → List Prop → List (Nat × Bool)
  | _, [] => []
  | k, p :: ps => (k, decide p) :: numberedFrom (k + 1) ps

/-- The first check that fails answers with its number. -/
theorem firstFailing_numberedFrom_first {ps : List Prop} {k n : Nat} (hn : ¬ ps.getD n True)
    (hbefore : ∀ j < n, ps.getD j True) : firstFailing (numberedFrom k ps) = some (k + n) := by
  induction ps generalizing k n with
  | nil => exact absurd trivial hn
  | cons p ps ih =>
    cases n with
    | zero => exact if_neg (by simpa using hn)
    | succ n =>
      have hp : p := hbefore 0 (Nat.succ_pos n)
      have hrest := ih (k := k + 1) hn fun j hj => hbefore (j + 1) (Nat.succ_lt_succ hj)
      rw [numberedFrom, firstFailing, if_pos (by simpa using hp), hrest, Nat.add_assoc, Nat.add_comm 1]

theorem firstFailing_numberedFrom_none {ps : List Prop} {k : Nat} (hall : ∀ j < ps.length, ps.getD j True) :
    firstFailing (numberedFrom k ps) = none := by
  induction ps generalizing k with
  | nil => rfl
  | cons p ps ih =>
    have hp : p := hall 0 (Nat.succ_pos _)
    rw [numberedFrom, firstFailing, if_pos (by simpa using hp)]
    exact ih fun j hj => hall (j + 1) (Nat.succ_lt_succ hj)

theorem decide_eq_bool_iff (p : Prop) [Decidable p] (b : Bool) : decide p = b ↔ (p ↔ b = true) := by
  cases b <;> simp

/-! ### Node lists that rise -/

theorem ascendingIn_iff (lo hi : Nat) (vs : List Nat) :
    ascendingIn lo hi vs = true ↔ (∀ v ∈ vs, lo ≤ v ∧ v ≤ hi) ∧ vs.Pairwise (· < ·) := by
  induction vs generalizing lo with
  | nil => simp [ascendingIn]
  | cons v vs ih =>
    simp only [ascendingIn, Bool.and_eq_true, decide_eq_true_eq, ih, List.forall_mem_cons, List.pairwise_cons]
    constructor
    · rintro ⟨⟨hlo, hhi⟩, hrange, hrising⟩
      exact ⟨⟨⟨hlo, hhi⟩, fun w hw => ⟨by have := (hrange w hw).1; omega, (hrange w hw).2⟩⟩,
        fun w hw => (hrange w hw).1, hrising⟩
    · rintro ⟨⟨⟨hlo, hhi⟩, hrange⟩, hfirst, hrising⟩
      exact ⟨⟨hlo, hhi⟩, fun w hw => ⟨hfirst w hw, (hrange w hw).2⟩, hrising⟩

/-- The values of an argument list rise within their range. -/
theorem State.argList_ascending (s : State) (lo hi a n : Nat) :
    ascendingIn lo hi (s.argList a n) = true ↔
      (∀ i < n, lo ≤ s.arg (a + 2 * i) 2 ∧ s.arg (a + 2 * i) 2 ≤ hi)
        ∧ ∀ i, i + 1 < n → s.arg (a + 2 * i) 2 < s.arg (a + 2 * (i + 1)) 2 := by
  rw [ascendingIn_iff, ← List.isChain_iff_pairwise, List.isChain_iff_getElem]
  simp [State.argList]

/-! ### PROFILE_OPEN -/

/-- The checks of R29, argument 4, the lens ID, taking every value. -/
def State.openChecks (s : State) (length a b : Nat) : List Prop :=
  [ 1 ≤ a ∧ a ≤ 12, 1 ≤ b ∧ b ≤ 8, length = 20 + 2 * (a + b), True, s.arg 10 1 ≤ 3, s.arg 11 1 ≤ 1,
    256 ≤ s.arg 12 4 ∧ s.arg 12 4 ≤ 131071, -2047 ≤ (s.arg16 16).toInt ∧ (s.arg16 16).toInt ≤ 2047,
    -2047 ≤ (s.arg16 18).toInt ∧ (s.arg16 18).toInt ≤ 2047,
    (∀ i < a, 1 ≤ s.arg (20 + 2 * i) 2) ∧ ∀ i, i + 1 < a → s.arg (20 + 2 * i) 2 < s.arg (20 + 2 * (i + 1)) 2,
    (∀ i < b, s.arg (20 + 2 * a + 2 * i) 2 ≤ 4095)
      ∧ ∀ i, i + 1 < b → s.arg (20 + 2 * a + 2 * i) 2 < s.arg (20 + 2 * a + 2 * (i + 1)) 2 ]

theorem State.badOpenArgument_eq (s : State) (a b : Nat) :
    s.badOpenArgument a b = firstFailing (numberedFrom 1 (s.openChecks s.cmdLength a b)) := by
  have hfocal : ∀ x, s.arg x 2 ≤ 65535 := fun x => Nat.le_of_lt_succ (s.arg_lt x 2)
  have hchecks : numberedFrom 1 (s.openChecks s.cmdLength a b) =
      [ (1, decide (1 ≤ a) && decide (a ≤ 12)), (2, decide (1 ≤ b) && decide (b ≤ 8)),
        (3, decide (s.cmdLength = 20 + 2 * (a + b))), (4, true), (5, decide (s.arg 10 1 ≤ 3)),
        (6, decide (s.arg 11 1 ≤ 1)), (7, decide (256 ≤ s.arg 12 4) && decide (s.arg 12 4 ≤ 131071)),
        (8, offsetInRange (s.arg16 16)), (9, offsetInRange (s.arg16 18)),
        (10, ascendingIn 1 65535 (s.argList 20 a)), (11, ascendingIn 0 4095 (s.argList (20 + 2 * a) b)) ] := by
    simp only [State.openChecks, numberedFrom, List.cons.injEq, Prod.mk.injEq, decide_eq_bool_iff, Bool.and_eq_true,
      offsetInRange, State.argList_ascending, hfocal, and_true, true_and, Nat.zero_le,
      iff_true, iff_self]
  rw [hchecks]
  simp only [State.badOpenArgument, firstFailing, if_true]

theorem State.argHeader_focals (s : State) (a b : Nat) :
    (s.argHeader a b).focals = (List.range a).map fun i => BitVec.ofNat 16 (s.arg (20 + 2 * i) 2) := List.map_map ..

theorem State.argHeader_focuses (s : State) (a b : Nat) :
    (s.argHeader a b).focuses = (List.range b).map fun i => BitVec.ofNat 12 (s.arg (20 + 2 * a + 2 * i) 2) :=
  List.map_map ..

theorem State.argHeader_tableSize (s : State) (a b : Nat) : (s.argHeader a b).tableSize = a * b := by
  rw [ProfileHeader.tableSize, State.argHeader_focals, State.argHeader_focuses]
  simp

theorem State.countArg_present {s : State} {a : Nat} (h : a < s.cmdLength) : s.countArg a = s.arg a 1 := if_pos h

theorem State.drawAbsent_present {s : State} (h : 6 ≤ s.cmdLength) : s.drawAbsent = s := if_neg (Nat.not_lt.2 h)

theorem profileOpenBody_busy {s : State} (h : s.store.staging ≠ .closed) :
    profileOpenBody s = s.respond .busy [] := if_pos h

theorem profileOpenBody_bad {s : State} {n : Nat} (hclosed : s.store.staging = .closed) (hlength : 6 ≤ s.cmdLength)
    (hbad : s.badOpenArgument (s.arg 4 1) (s.arg 5 1) = some n) : profileOpenBody s = s.badArgument n := by
  rw [profileOpenBody, if_neg (not_not.2 hclosed), State.countArg_present (by omega), State.countArg_present (by omega)]
  simp only [hbad, State.drawAbsent_present hlength]

theorem profileOpenBody_opened {s : State} (hclosed : s.store.staging = .closed) (hlength : 6 ≤ s.cmdLength)
    (hgood : s.badOpenArgument (s.arg 4 1) (s.arg 5 1) = none) :
    profileOpenBody s =
      ({ s with
          store := { s.store with
            staging := .opened (.opening (s.argHeader (s.arg 4 1) (s.arg 5 1))) } }).respond .ok
        [byteOf (s.argHeader (s.arg 4 1) (s.arg 5 1)).tableSize] := by
  rw [profileOpenBody, if_neg (not_not.2 hclosed), State.countArg_present (by omega), State.countArg_present (by omega)]
  simp only [hgood]
  rfl

theorem exec_profileOpen {s : State} {length : Nat} (h : s.handed 0x20 length) :
    exec .profileOpen s = .next (profileOpenBody s) :=
  congrArg Host.Outcome.next (s.runCommand_byArguments _ h rfl)

/-! ### PROFILE_NODES -/

/-- A set written has its place, the others stay (R31). -/
theorem writeSets_getElem? (table : List (Option CoeffSet)) (first : Nat) (cs : List CoeffSet) (i : Nat)
    (hi : i < table.length) :
    (writeSets table first cs)[i]? =
      if first ≤ i ∧ i < first + cs.length then cs[i - first]?.map some else table[i]? := by
  induction cs generalizing table first with
  | nil => rw [writeSets, if_neg (by simp)]
  | cons c cs ih =>
    rw [writeSets, ih _ _ (by simpa using hi)]
    rcases lt_trichotomy i first with hlt | rfl | hgt
    · rw [if_neg (by omega), if_neg (by omega), List.getElem?_set_ne (by omega)]
    · rw [if_neg (by omega), if_pos (by simp), List.getElem?_set_self hi, Nat.sub_self]
      rfl
    · obtain ⟨j, rfl⟩ : ∃ j, i = first + 1 + j := ⟨i - (first + 1), by omega⟩
      rw [List.getElem?_set_ne (by omega), show first + 1 + j - first = j + 1 by omega,
        show first + 1 + j - (first + 1) = j by omega, List.getElem?_cons_succ, List.length_cons]
      exact if_congr (by omega) rfl rfl

theorem exec_profileNodes {s : State} {length : Nat} (h : s.handed 0x21 length) :
    exec .profileNodes s = .next (profileNodesBody s) :=
  congrArg Host.Outcome.next (s.runCommand_byArguments _ h rfl)

theorem profileNodesBody_notOpen {s : State} (h : ∀ p, s.store.staging ≠ .opened p) :
    profileNodesBody s = s.respond .notOpen [] := by
  rw [profileNodesBody]
  cases hs : s.store.staging with
  | opened p => exact absurd hs (h p)
  | closed => rfl
  | committing p => rfl

/-- The staging slot with the sets of a PROFILE_NODES written (R31). -/
def Staged.written (p : Staged) (s : State) : Staged :=
  { p with table := writeSets p.table (s.arg 4 1) (s.argSets (s.arg 5 1)) }

theorem profileNodesBody_open {s : State} {p : Staged} (hopen : s.store.staging = .opened p)
    (hlength : 6 ≤ s.cmdLength) :
    profileNodesBody s =
      (firstFailing
        [ (2, decide (1 ≤ s.arg 5 1) && decide (s.arg 5 1 ≤ 8)),
          (1, decide (s.arg 4 1 + s.arg 5 1 ≤ p.header.tableSize)),
          (3, decide (s.cmdLength = 6 + 24 * s.arg 5 1)) ]).elim
        (({ s with store := { s.store with staging := .opened (p.written s) } }).respond .ok
          [byteOf ((p.written s).table.countP Option.isSome), byteOf p.header.tableSize]) s.badArgument := by
  rw [profileNodesBody]
  simp only [hopen, State.countArg_present (s := s) (a := 4) (by omega),
    State.countArg_present (s := s) (a := 5) (by omega), State.drawAbsent_present hlength]
  cases firstFailing _ <;> rfl

/-- Settles O47: PROFILE_OPEN's checks as a numbered list, PROFILE_NODES' three in order. -/
theorem stagingSlotIsOpenedAndWritten : Obligations.StagingSlotIsOpenedAndWritten := by
  refine ⟨fun s length h hlength => ?_, fun s length h hlength => ?_⟩
  · have hcmd : s.cmdLength = length := h.2.2.2.2.1
    have hbad : s.badOpenArgument (s.arg 4 1) (s.arg 5 1) =
      firstFailing (numberedFrom 1 (s.openChecks length (s.arg 4 1) (s.arg 5 1))) := hcmd ▸ s.badOpenArgument_eq _ _
    rw [exec_profileOpen h]
    refine ⟨fun hs => congrArg _ (profileOpenBody_busy hs), fun hs => ⟨fun n _ hn hbefore => ?_, fun hall => ?_⟩⟩
    · have hfirst := hbad.trans (firstFailing_numberedFrom_first hn hbefore)
      rw [profileOpenBody_bad hs (hcmd ▸ hlength) hfirst, Nat.add_comm]
      rfl
    · have hgood := hbad.trans (firstFailing_numberedFrom_none hall)
      rw [profileOpenBody_opened hs (hcmd ▸ hlength) hgood, Staged.opening, s.argHeader_tableSize,
        ← s.argHeader_focals (s.arg 4 1) (s.arg 5 1), ← s.argHeader_focuses (s.arg 4 1) (s.arg 5 1)]
      rfl
  · have hcmd : s.cmdLength = length := h.2.2.2.2.1
    rw [exec_profileNodes h]
    refine ⟨fun hs => congrArg _ (profileNodesBody_notOpen hs), fun p hp htable => ?_⟩
    rw [profileNodesBody_open hp (hcmd ▸ hlength), hcmd]
    have hsize : p.header.tableSize = p.table.length := htable.symm
    rw [hsize]
    refine ⟨fun h2 => ?_, fun hlo hhi h1 => ?_, fun hlo hhi h1 h3 => ?_, fun hlo hhi h1 h3 => ?_⟩
    · have hcount : (decide (1 ≤ s.arg 5 1) && decide (s.arg 5 1 ≤ 8)) = false := by simp; omega
      rw [hcount]
      rfl
    · rw [decide_eq_true hlo, decide_eq_true hhi, decide_eq_false (Nat.not_le.2 h1)]
      rfl
    · rw [decide_eq_true hlo, decide_eq_true hhi, decide_eq_true h1, decide_eq_false h3]
      rfl
    · rw [decide_eq_true hlo, decide_eq_true hhi, decide_eq_true h1, decide_eq_true h3]
      have hwritten : (p.written s).table.length = p.table.length := writeSets_length _ _ _
      refine ⟨(p.written s).table, hwritten, fun i hi => ?_, by rw [hwritten]; rfl⟩
      rw [List.getD_eq_getElem?_getD, Staged.written, writeSets_getElem? _ _ _ _ (hwritten ▸ hi)]
      have hlen : (s.argSets (s.arg 5 1)).length = s.arg 5 1 := by simp [State.argSets]
      rw [hlen]
      split
      · rw [State.argSets, List.getElem?_map, List.getElem?_range (by omega)]
        rfl
      · rw [List.getD_eq_getElem?_getD]

end Sys2Proof.Machine
end

section
/-! PROOFS. The commands that post lens states: POST_ATTACH, POST_POSITION, POST_DETACH (R86 to R89): O20, O21, O22. -/

namespace Sys2Proof.Machine

/-! ### What a POST command has done so far -/

/-- The ports differ in their slots alone. -/
def State.SlotsOnly (s t : State) : Prop := ∀ p, t.port p = { s.port p with slots := (t.port p).slots }

theorem State.SlotsOnly.refl (s : State) : s.SlotsOnly s := fun _ => rfl

theorem State.SlotsOnly.testCover {s t : State} (h : s.SlotsOnly t) : s.SlotsOnly t.testCover := fun p => by
  rw [State.testCover_port, h p]

/-- From `s`: these events posted, the tracker as given, and of the ports the slots alone changed. -/
structure State.Posted (s : State) (lst : Tracker) (es : List (EventKind × Half)) (t : State) : Prop where
  frame : t = { s with eu := s.posting es, lst := lst, ports := t.ports }
  slots : s.SlotsOnly t

theorem State.Posted.refl (s : State) : s.Posted s.lst [] s := ⟨rfl, .refl s⟩

theorem State.Posted.setTracker {s t : State} {lst : Tracker} {es : List (EventKind × Half)} (h : s.Posted lst es t)
    (lst' : Tracker) : s.Posted lst' es { t with lst := lst' } :=
  ⟨by rw [h.frame], h.slots⟩

theorem State.Posted.posting_eq {s t : State} {lst : Tracker} {es : List (EventKind × Half)} (h : s.Posted lst es t)
    (fs : List (EventKind × Half)) : t.posting fs = s.posting (es ++ fs) := by
  rw [State.posting_append, h.frame]
  rfl

theorem State.Posted.post {s t : State} {lst : Tracker} {es : List (EventKind × Half)} (h : s.Posted lst es t)
    (fs : List (EventKind × Half)) : s.Posted lst (es ++ fs) { t with eu := t.posting fs } :=
  ⟨by rw [← h.posting_eq, h.frame], h.slots⟩

theorem State.Posted.event {s t : State} {lst : Tracker} {es : List (EventKind × Half)} (h : s.Posted lst es t)
    (lst' : Tracker) (fs : List (EventKind × Half)) :
    s.Posted lst' (es ++ fs) { t with lst := lst', eu := t.posting fs } :=
  (h.post fs).setTracker lst'

theorem State.Posted.testCover {s t : State} {lst : Tracker} {es : List (EventKind × Half)} (h : s.Posted lst es t) :
    s.Posted lst es t.testCover :=
  ⟨by rw [h.frame]; rfl, h.slots.testCover⟩

/-- The response closes the command. -/
theorem State.Posted.respond {s t : State} {lst : Tracker} {es : List (EventKind × Half)} (h : s.Posted lst es t)
    (args : List Byte) :
    let u := t.respond .ok args
    u = { s with cp := u.cp, eu := u.eu, lst := u.lst, ports := u.ports }
      ∧ s.SlotsOnly u ∧ u.lst = lst
      ∧ u.cp = { s.cp with
          rspBox := Memory.holding (responseBytes .ok args), cmdFlag := false, rspFlag := false, extent := 0 }
      ∧ u.eu = s.posting (es ++ [(.responseReady, 0)]) := by
  refine ⟨?_, h.slots, ?_, ?_, h.posting_eq [(.responseReady, 0)]⟩ <;> rw [State.respond_eq, h.frame]

/-! ### The posted feed touched (R79, R80, R82) -/

/-- The tracker once an accepted POST command has touched the posted feed. -/
def State.touchedTracker (s : State) : Tracker :=
  { s.lst with
    source :=
      if s.lst.postedFresh = false ∧ s.config.autoFailover = true ∧ s.lst.source = .link ∧ s.llr.fresh = false then
        .posted
      else s.lst.source
    postedFresh := true
    postedTimer := some (s.time + BitVec.ofNat 32 (1000 * s.config.postedSilence.toNat)) }

def State.touchEvents (s : State) : List (EventKind × Half) :=
  (if s.lst.postedFresh = false then [(.linkRestored, 1)] else [])
    ++ (if s.lst.postedFresh = false ∧ s.config.autoFailover = true ∧ s.lst.source = .link ∧ s.llr.fresh = false then
          [(.sourceChanged, 0x0101#16)] else [])

/-- The failover to the posted feed (R82). -/
theorem State.Posted.failover {s t : State} {lst : Tracker} {es : List (EventKind × Half)} (h : s.Posted lst es t) :
    s.Posted { lst with source := .posted } (es ++ [(.sourceChanged, 0x0101#16)])
      ({ t with
        lst := { t.lst with source := .posted }, eu := t.posting [(.sourceChanged, 0x0101#16)] }).testCover := by
  have hlst : t.lst = lst := by rw [h.frame]
  rw [hlst]
  exact (h.event _ _).testCover

theorem State.touchPosted_posted (s : State) : s.Posted s.touchedTracker s.touchEvents s.touchPosted := by
  obtain ⟨hfresh, hrestored, hfails⟩ := s.touchPosted_cases
  cases hposted : s.lst.postedFresh with
  | true =>
    have htracker : s.touchedTracker = { s.lst with
        postedTimer := some (s.time + BitVec.ofNat 32 (1000 * s.config.postedSilence.toNat)) } := by
      simp [State.touchedTracker, hposted]
    have hevents : s.touchEvents = [] := by simp [State.touchEvents, hposted]
    rw [hfresh hposted, htracker, hevents]
    exact (State.Posted.refl s).setTracker _
  | false =>
    have hposted' := ((State.Posted.refl s).event { s.lst with
      postedTimer := some (s.time + BitVec.ofNat 32 (1000 * s.config.postedSilence.toNat))
      postedFresh := true } [(.linkRestored, 1)]).testCover
    by_cases hfail : s.config.autoFailover = true ∧ s.lst.source = .link ∧ s.llr.fresh = false
    · have hevents : s.touchEvents = [(.linkRestored, 1)] ++ [(.sourceChanged, 0x0101#16)] := by
        simp only [State.touchEvents, hposted, if_pos hfail, true_and, if_true]
      have htracker : s.touchedTracker = { s.lst with
          source := .posted, postedFresh := true
          postedTimer := some (s.time + BitVec.ofNat 32 (1000 * s.config.postedSilence.toNat)) } := by
        simp only [State.touchedTracker, hposted, if_pos hfail, true_and]
      rw [hfails hposted hfail, htracker, hevents]
      exact hposted'.failover
    · have hevents : s.touchEvents = [(.linkRestored, 1)] := by
        simp only [State.touchEvents, hposted, if_neg hfail, true_and, if_true, List.append_nil]
      have htracker : s.touchedTracker = { s.lst with
          postedFresh := true
          postedTimer := some (s.time + BitVec.ofNat 32 (1000 * s.config.postedSilence.toNat)) } := by
        simp only [State.touchedTracker, hposted, if_neg hfail, true_and]
      rw [hrestored hposted hfail, htracker, hevents]
      exact hposted'

/-! ### POST_ATTACH -/

theorem exec_postAttach {s : State} (h : s.handed 0x10 21) : exec .postAttach s = .next (postAttachBody s) :=
  congrArg Host.Outcome.next (s.runCommand_fixed _ h rfl)

theorem postAttachBody_bad {s : State} {n : Nat} (h : s.badAttachArgument = some n) :
    postAttachBody s = s.badArgument n := by
  rw [postAttachBody, h]

/-- The tracker after an accepted POST_ATTACH (R73, R87). -/
def State.attachedTracker (s : State) : Tracker :=
  let focal := BitVec.ofNat 16 (max (s.arg16 10).toNat (min (s.arg16 12).toNat (s.arg16 15).toNat))
  let time := s.time - BitVec.ofNat 32 (s.arg 19 2)
  { s.touchedTracker with
    record := some
      { lensId := s.arg32 4, firmware := s.arg16 8, focalMin := s.arg16 10, focalMax := s.arg16 12
        converter := BitVec.ofNat 2 (s.arg 14 1), presence := .attached, epoch := s.lst.epoch + 1 }
    epoch := s.lst.epoch + 1
    timeline := [{ tFirst := time, tLast := time, focal := focal, focus := BitVec.ofNat 12 (s.arg 17 2)
                   converter := BitVec.ofNat 2 (s.arg 14 1), source := .posted }]
    clamps := if focal = s.arg16 15 then s.lst.clamps else satAdd s.lst.clamps 1
    override := none }

def State.attachArgs (s : State) : List Byte :=
  let focal := BitVec.ofNat 16 (max (s.arg16 10).toNat (min (s.arg16 12).toNat (s.arg16 15).toNat))
  [0, if focal = s.arg16 15 then 0 else 1] ++ bytes16 (s.lst.epoch + 1) ++ [0]

def State.attachEvents (s : State) : List (EventKind × Half) :=
  (.lensAttached, s.lst.epoch + 1) :: s.unprofiled (s.arg32 4) (BitVec.ofNat 2 (s.arg 14 1))

theorem State.unprofiled_congr {s t : State} (h : t.store = s.store) (id : Word) (c : BitVec 2) :
    t.unprofiled id c = s.unprofiled id c := by
  have hkey : ∀ id c, t.slotWithKey id c = s.slotWithKey id c := fun _ _ => by
    simp only [State.slotWithKey, findSlot, State.profile?, h]
  rw [State.unprofiled, hkey, hkey, State.unprofiled]

theorem clampMark_toByte (x y : Half) : byteOf ((x != y).toNat + 2 * false.toNat) = if x = y then 0 else 1 := by
  by_cases h : x = y
  · simp [h, byteOf]
  · rw [if_neg h, bne_iff_ne.2 h]
    rfl

theorem postAttachBody_accepted {s : State} (h : s.badAttachArgument = none)
    (hrange : (s.arg16 10).toNat ≤ (s.arg16 12).toNat) :
    postAttachBody s =
      ({ s.touchPosted with
        lst := s.attachedTracker
        eu := s.touchPosted.posting s.attachEvents }).testCover.respond .ok s.attachArgs := by
  have hlst : s.touchPosted.lst = s.touchedTracker := by rw [s.touchPosted_posted.frame]
  have hattach := s.touchPosted.attach_eq (a := s.argAttach) hrange (s.postTime (s.arg 19 2)) .posted
  rw [hlst, State.unprofiled_congr s.touchPosted_store] at hattach
  rw [postAttachBody, h]
  dsimp only
  rw [hattach, State.respondPost, clampMark_toByte]
  rfl

/-- The part of O20 that attaches. -/
theorem postAttach_attaches {s : State} {lo hi : Half} (h : s.handed 0x10 21) (hlo : s.arg16 10 = lo)
    (hhi : s.arg16 12 = hi) (h3 : 1 ≤ lo.toNat) (h4 : lo.toNat ≤ hi.toNat)
    (h5 : s.arg 14 1 ≤ 3) (h7 : s.arg 17 2 ≤ 4095) :
    exec .postAttach s = .next
      (({ s.touchPosted with
        lst := s.attachedTracker
        eu := s.touchPosted.posting s.attachEvents }).testCover.respond .ok s.attachArgs) := by
  subst hlo hhi
  rw [exec_postAttach h, postAttachBody_accepted ?_ h4]
  rw [State.arg16_toNat] at h3 h4
  rw [State.arg16_toNat] at h4
  rw [State.badAttachArgument, decide_eq_true h3, decide_eq_true h4, decide_eq_true h5, decide_eq_true h7]
  rfl

/-- Settles O20: the attach after the posted feed was touched; what touching does; the arguments in error. -/
theorem postAttachFillsTheRecord : Obligations.PostAttachFillsTheRecord := by
  refine ⟨fun s lo hi f h hlo hhi hf h3 h4 h5 h7 => ?_, State.touchPosted_cases, fun s h => ?_⟩
  · have hexec := postAttach_attaches h hlo hhi h3 h4 h5 h7
    subst hlo hhi hf
    obtain ⟨hframe, hports, hlst, hcp, heu⟩ := (s.touchPosted_posted.event s.attachedTracker
      s.attachEvents).testCover.respond s.attachArgs
    refine ⟨_, hexec, hframe, hlst, hcp, ?_, hports, ?_⟩
    · rw [heu]
      simp only [State.touchEvents, State.attachEvents, State.unprofiled, List.append_assoc, List.cons_append,
        List.nil_append]
    · rw [hlst]
      rfl
  · rw [exec_postAttach h]
    refine ⟨fun h3 => ?_, fun h3 h4 => ?_, fun h3 h4 h5 => ?_, fun h3 h4 h5 h7 => ?_⟩
    · rw [postAttachBody_bad (n := 3)]
      · rfl
      · rw [State.badAttachArgument, h3]
        rfl
    · rw [postAttachBody_bad (n := 4)]
      · rfl
      · rw [State.badAttachArgument, decide_eq_true h3, decide_eq_false (Nat.not_le.2 h4)]
        rfl
    · rw [postAttachBody_bad (n := 5)]
      · rfl
      · rw [State.badAttachArgument, decide_eq_true h3, decide_eq_true h4, decide_eq_false (by omega)]
        rfl
    · rw [postAttachBody_bad (n := 7)]
      · rfl
      · rw [State.badAttachArgument, decide_eq_true h3, decide_eq_true h4, decide_eq_true h5,
          decide_eq_false (by omega)]
        rfl

end Sys2Proof.Machine
end

section
/-! PROOFS. POST_DETACH and POST_POSITION (R74, R77, R86, R88, R89): O21, O22. -/

namespace Sys2Proof.Machine

theorem State.touchPosted_lst (s : State) : s.touchPosted.lst = s.touchedTracker := by
  rw [s.touchPosted_posted.frame]

/-! ### POST_DETACH -/

theorem exec_postDetach {s : State} (h : s.handed 0x12 6) : exec .postDetach s = .next (postDetachBody s) :=
  congrArg Host.Outcome.next (s.runCommand_fixed _ h rfl)

/-- The tracker after an accepted POST_DETACH (R74). -/
def State.detachedTracker (s : State) (r : LensRecord) : Tracker :=
  { s.touchedTracker with record := some { r with presence := .detached } }

def State.detachArgs (s : State) : List Byte :=
  [1, 0] ++ bytes16 s.lst.epoch ++ [BitVec.ofNat 8 (s.lst.timeline.length - 1)]

theorem postDetachBody_accepted {s : State} {r : LensRecord} (hr : s.lst.record = some r)
    (hattached : s.attached = true) :
    postDetachBody s =
      ({ s.touchPosted with
        lst := s.detachedTracker r
        eu := s.touchPosted.posting [(.lensDetached, s.lst.epoch)] }).testCover.respond .ok s.detachArgs := by
  have hrecord : s.touchPosted.lst.record = some r := by rw [s.touchPosted_lst]; exact hr
  rw [postDetachBody, hattached, State.detach_eq hrecord, s.touchPosted_lst]
  rfl

/-- Settles O22: the detach after the posted feed was touched. -/
theorem postDetachKeepsAllButThePresence : Obligations.PostDetachKeepsAllButThePresence := by
  refine fun s h => ⟨fun hnone => ?_, fun r hr hpresent => ?_⟩
  · rw [exec_postDetach h, postDetachBody, hnone]
    rfl
  · have hattached : s.attached = true := (State.attached_iff hr).2 hpresent
    obtain ⟨hframe, hports, hlst, hcp, heu⟩ := (s.touchPosted_posted.event (s.detachedTracker r)
      [(.lensDetached, s.lst.epoch)]).testCover.respond s.detachArgs
    refine ⟨_, (exec_postDetach h).trans (congrArg _ (postDetachBody_accepted hr hattached)), hframe, hports, hlst, ?_,
      ?_, ?_, ?_⟩
    · refine State.trackerState_of_not_attached ?_
      rw [State.attached, hlst]
      rfl
    · rw [hcp]
      rfl
    · rw [heu]
      simp only [State.touchEvents, List.append_assoc, List.cons_append, List.nil_append]
    · rw [s.touchPosted_lst]
      rfl

/-! ### POST_POSITION -/

theorem exec_postPosition {s : State} (h : s.handed 0x11 11) : exec .postPosition s = .next (postPositionBody s) :=
  congrArg Host.Outcome.next (s.runCommand_fixed _ h rfl)

theorem postPositionBody_bad {s : State} {n : Nat} (h : s.badPositionArgument = some n) :
    postPositionBody s = s.badArgument n := by
  rw [postPositionBody, h]

theorem postPositionBody_noLens {s : State} (h : s.badPositionArgument = none) (hnone : s.attached = false) :
    postPositionBody s = s.respond .noLens [] := by
  rw [postPositionBody, h, hnone]
  rfl

theorem postPositionBody_ignored {s : State} (h : s.badPositionArgument = none) (hattached : s.attached = true)
    (hsource : s.touchedTracker.source = .link) :
    postPositionBody s =
      ({ s.touchPosted with
        lst := { s.touchedTracker with ignored := satAdd s.lst.ignored 1 } }).respond .ok
          ([5, 0] ++ bytes16 s.lst.epoch ++ [BitVec.ofNat 8 (s.lst.timeline.length - 1)]) := by
  rw [postPositionBody, h, hattached]
  dsimp only
  rw [if_neg (by decide), if_neg (by rw [s.touchPosted_lst, hsource]; decide), State.countIgnored, s.touchPosted_lst]
  rfl

theorem postPositionBody_applied {s : State} (h : s.badPositionArgument = none) (hattached : s.attached = true)
    (hsource : s.touchedTracker.source = .posted) :
    postPositionBody s = s.touchPosted.postSample s.argSample := by
  rw [postPositionBody, h, hattached]
  dsimp only
  rw [if_neg (by decide), if_pos (by rw [s.touchPosted_lst, hsource])]

/-- A sample entered rests on the tracker and changes nothing else. -/
theorem State.enterSample_tracker {s t : State} (h : s.lst = t.lst) (x : Sample) :
    (s.enterSample x).1 = { s with lst := (t.enterSample x).1.lst } := by
  have hlate : s.isLate x.time = t.isLate x.time := by simp only [State.isLate, State.newest?, h]
  have hclamp : s.clampedFocal x.focal = t.clampedFocal x.focal := by simp only [State.clampedFocal, h]
  rw [State.enterSample, State.enterSample, ← hlate, ← hclamp, ← h]
  split <;> rfl

theorem State.enterSample_epoch (s : State) (x : Sample) : (s.enterSample x).1.lst.epoch = s.lst.epoch := by
  rcases s.enterSample_cases x with ⟨-, h⟩ | ⟨-, clamps, h⟩ <;> rw [h]

theorem State.Posted.enterSample {s t : State} {lst : Tracker} {es : List (EventKind × Half)} (h : s.Posted lst es t)
    (x : Sample) :
    s.Posted (({ s with lst := lst }).enterSample x).1.lst es (t.enterSample x).1.testCover
      ∧ (t.enterSample x).2 = (({ s with lst := lst }).enterSample x).2 := by
  have hlst : t.lst = ({ s with lst := lst } : State).lst := by rw [h.frame]
  rw [State.enterSample_tracker hlst]
  exact ⟨(h.setTracker _).testCover, State.enterSample_congr hlst x⟩

/-- The response to a sample: what became of it, its clamp and the converter change (R86). -/
def sampleArgs (o : SampleOutcome) (clamped change : Bool) (lst : Tracker) : List Byte :=
  ([match o with | .appended => 2 | .extended => 3 | .late => 4,
      (if clamped then 1 else 0) + (if change then 2 else 0)] : List Byte)
    ++ bytes16 lst.epoch ++ [BitVec.ofNat 8 (lst.timeline.length - 1)]

theorem sampleArgs_converter (o : SampleOutcome) (clamped : Bool) (c c' : BitVec 2) (lst : Tracker) :
    sampleArgs o clamped (c != c') lst =
      ([match o with | .appended => 2 | .extended => 3 | .late => 4,
          (if clamped then 1 else 0) + (if c' ≠ c then 2 else 0)] : List Byte)
        ++ bytes16 lst.epoch ++ [BitVec.ofNat 8 (lst.timeline.length - 1)] := by
  by_cases h : c' = c
  · rw [h, bne_self_eq_false, if_neg (not_not.2 rfl)]
    rfl
  · rw [bne_iff_ne.2 (Ne.symm h), if_pos h]
    rfl

theorem State.respondPost_sample (s : State) (o : SampleOutcome) (clamped change : Bool) :
    s.respondPost o.toPost clamped change = s.respond .ok (sampleArgs o clamped change s.lst) := by
  cases o <;> cases clamped <;> cases change <;> rfl

/-- The tracker before the sample of a POST_POSITION is entered, its converter as the sample's. -/
def State.converterTracker (s : State) (r : LensRecord) (c : BitVec 2) : Tracker :=
  { s.touchedTracker with record := some { r with converter := c } }

/-- The touched state with the converter as the sample has it (R77, R88). -/
def State.converted (s : State) (r : LensRecord) (c : BitVec 2) : State :=
  if r.converter ≠ c then
    { s.touchPosted with
      lst := s.converterTracker r c
      eu := s.touchPosted.posting ((.converterChanged, c.setWidth 16) :: s.unprofiled r.lensId c) }
  else s.touchPosted

theorem State.converted_posted {s : State} {r : LensRecord} (hr : s.lst.record = some r) (c : BitVec 2) :
    s.Posted (s.converterTracker r c)
      (s.touchEvents ++ if r.converter ≠ c then (.converterChanged, c.setWidth 16) :: s.unprofiled r.lensId c else [])
      (s.converted r c) := by
  unfold State.converted
  by_cases hchange : r.converter ≠ c
  · rw [if_pos hchange, if_pos hchange]
    exact s.touchPosted_posted.event _ _
  · have hsame : s.converterTracker r c = s.touchedTracker := by
      rw [State.converterTracker, ← not_not.1 hchange, ← hr]
      rfl
    rw [if_neg hchange, if_neg hchange, hsame, List.append_nil]
    exact s.touchPosted_posted

/-- The sample of a POST_POSITION entered into the tracker it finds (R88). -/
def State.sampleEntered (s : State) (r : LensRecord) (x : Sample) : State × SampleOutcome × Bool :=
  ({ s with lst := s.converterTracker r x.converter } : State).enterSample x

theorem State.converted_enterSample {s : State} {r : LensRecord} (hr : s.lst.record = some r) (x : Sample) :
    s.Posted (s.sampleEntered r x).1.lst
        (s.touchEvents ++ if r.converter ≠ x.converter then
          (.converterChanged, x.converter.setWidth 16) :: s.unprofiled r.lensId x.converter else [])
        ((s.converted r x.converter).enterSample x).1.testCover
      ∧ ((s.converted r x.converter).enterSample x).2 = (s.sampleEntered r x).2 :=
  (s.converted_posted hr x.converter).enterSample x

/-- The arguments of the response to a POST_POSITION that is applied. -/
def State.positionArgs (s : State) (r : LensRecord) (x : Sample) : List Byte :=
  sampleArgs (s.sampleEntered r x).2.1 (s.sampleEntered r x).2.2 (x.converter != r.converter)
    (s.sampleEntered r x).1.lst

theorem State.postSample_converted {s : State} {r : LensRecord} (hr : s.lst.record = some r) (x : Sample) :
    s.touchPosted.postSample x =
      ((s.converted r x.converter).enterSample x).1.testCover.respond .ok (s.positionArgs r x) := by
  have hrecord : s.touchPosted.lst.record = some r := by rw [s.touchPosted_lst]; exact hr
  have hconverted : (if x.converter != r.converter then s.touchPosted.changeConverter x.converter else s.touchPosted) =
      s.converted r x.converter := by
    rw [State.changeConverter_eq hrecord, State.unprofiled_congr s.touchPosted_store, s.touchPosted_lst,
      State.converted]
    exact if_congr (by rw [bne_iff_ne]; exact ne_comm) rfl rfl
  obtain ⟨hposted, houtcome⟩ := s.converted_enterSample hr x
  have hlst : ((s.converted r x.converter).enterSample x).1.testCover.lst = (s.sampleEntered r x).1.lst := by
    rw [hposted.frame]
  rw [State.postSample, State.recordConverter_eq hrecord, hconverted, State.respondPost_sample, hlst, houtcome]
  rfl

theorem State.positionArgs_eq (s : State) (r : LensRecord) (x : Sample) :
    s.positionArgs r x =
      ([match (s.sampleEntered r x).2.1 with | .appended => 2 | .extended => 3 | .late => 4,
          (if (s.sampleEntered r x).2.2 then 1 else 0) + (if r.converter ≠ x.converter then 2 else 0)] : List Byte)
        ++ bytes16 s.lst.epoch ++ [BitVec.ofNat 8 ((s.sampleEntered r x).1.lst.timeline.length - 1)] := by
  have hepoch : (s.sampleEntered r x).1.lst.epoch = s.lst.epoch := State.enterSample_epoch _ _
  rw [State.positionArgs, sampleArgs_converter, hepoch]

/-- Settles O21: refused, without a lens, not current, or converted and entered. -/
theorem postPositionEntersASample : Obligations.PostPositionEntersASample := by
  refine ⟨fun s h h2 h3 => ?_, fun s h => ⟨fun h2 => ?_, fun h2 h3 => ?_⟩⟩
  · have hgood : s.badPositionArgument = none := by
      rw [State.badPositionArgument, decide_eq_true h2, decide_eq_true h3]
      rfl
    rw [exec_postPosition h]
    intro converter sample restored fails touched early
    refine ⟨fun hnone => congrArg _ (postPositionBody_noLens hgood hnone), fun r hr hpresent => ?_⟩
    have hattached : s.attached = true := (State.attached_iff hr).2 hpresent
    by_cases hsource : s.lst.source = .posted ∨ fails
    · have happlied : s.touchedTracker.source = .posted := by
        rcases hsource with hposted | hfails
        · rw [State.touchedTracker, hposted]
          exact ite_self _
        · exact if_pos hfails
      have hbody := (postPositionBody_applied hgood hattached happlied).trans (s.postSample_converted hr s.argSample)
      obtain ⟨hposted, -⟩ := s.converted_enterSample hr s.argSample
      obtain ⟨hframe, hports, hlst, hcp, heu⟩ := hposted.respond (s.positionArgs r s.argSample)
      have hargs := s.positionArgs_eq r s.argSample
      refine ⟨_, congrArg _ hbody, hframe, hports, fun hlink hno => ?_, fun _ => ?_⟩
      · exact absurd hsource (by rw [hlink]; simpa using hno)
      · intro before entered change known changed
        refine ⟨?_, hlst, ?_, ?_⟩
        · rw [hlst]
          exact congrArg _ hargs
        · rw [hlst, hcp]
          exact congrArg (fun args => Memory.holding (responseBytes .ok args)) hargs
        · rw [heu]
          rfl
    · have hlink : s.lst.source = .link := by
        cases hs : s.lst.source with
        | link => rfl
        | posted => exact absurd (.inl hs) hsource
      have hignored : s.touchedTracker.source = .link :=
        (if_neg fun hfails => hsource (.inr hfails)).trans hlink
      obtain ⟨hframe, hports, hlst, hcp, heu⟩ := (s.touchPosted_posted.setTracker
        { s.touchedTracker with ignored := satAdd s.lst.ignored 1 }).respond
          ([5, 0] ++ bytes16 s.lst.epoch ++ [BitVec.ofNat 8 (s.lst.timeline.length - 1)])
      refine ⟨_, congrArg _ (postPositionBody_ignored hgood hattached hignored), hframe, hports,
        fun _ _ => ⟨rfl, hlst, ?_, heu⟩, fun h => absurd h hsource⟩
      rw [hcp]
  · rw [exec_postPosition h, postPositionBody_bad (n := 2)]
    · rfl
    · rw [State.badPositionArgument, decide_eq_false (by omega)]
      rfl
  · rw [exec_postPosition h, postPositionBody_bad (n := 3)]
    · rfl
    · rw [State.badPositionArgument, decide_eq_true h2, decide_eq_false (by omega)]
      rfl

end Sys2Proof.Machine
end

section
/-! PROOFS. Wait timers, request words, output words and refuse records (R122, R125, R131, R138, R139): O27, O28. -/

namespace Sys2Proof.Machine

/-! ### One slot among the others -/

theorem filter_slot_middle {older younger : List Request} {r : Request}
    (h : ∀ x ∈ older ++ younger, x.slot ≠ r.slot) :
    (older ++ r :: younger).filter (fun x => x.slot != r.slot) = older ++ younger := by
  obtain ⟨holder, hyounger⟩ := List.forall_mem_append.1 h
  rw [List.filter_append, filter_slot_head hyounger, List.filter_eq_self.2 fun x hx => bne_iff_ne.2 (holder x hx)]

theorem map_slot_middle {older younger : List Request} {r : Request} (f : Request → Request)
    (h : ∀ x ∈ older ++ younger, x.slot ≠ r.slot) :
    (older ++ r :: younger).map (fun x => if x.slot = r.slot then f x else x) = older ++ f r :: younger := by
  obtain ⟨holder, hyounger⟩ := List.forall_mem_append.1 h
  have hkept : older.map (fun x => if x.slot = r.slot then f x else x) = older.map id :=
    List.map_congr_left fun x hx => if_neg (holder x hx)
  rw [List.map_append, map_slot_head f hyounger, hkept, List.map_id]

theorem MeshPort.request?_middle {q : MeshPort} {older younger : List Request} {r : Request}
    (hslots : q.slots = older ++ r :: younger) (h : ∀ x ∈ older ++ younger, x.slot ≠ r.slot) :
    q.request? r.slot = some r := by
  have hnone : older.find? (fun x => x.slot == r.slot) = none :=
    List.find?_eq_none.2 fun x hx => by simpa using (List.forall_mem_append.1 h).1 x hx
  rw [MeshPort.request?, hslots, List.find?_append, hnone, List.find?_cons_of_pos (by simp)]
  rfl

/-! ### The wait timer -/

theorem exec_waitTimer_reached {s : State} {p : Port} {r : Request} (hr : (s.port p).request? r.slot = some r)
    (h : reached s.time r.waitTimer = true) :
    exec (.waitTimerExpiry p r.slot) s = .next (s.setPort p ((s.port p).expireWait r)) := by
  show execWaitTimerExpiry p r.slot s = _
  rw [execWaitTimerExpiry, hr]
  exact congrArg Host.Outcome.next (if_pos h)

theorem exec_waitTimer_not_reached {s : State} {p : Port} {r : Request} (hr : (s.port p).request? r.slot = some r)
    (h : ¬ reached s.time r.waitTimer = true) : exec (.waitTimerExpiry p r.slot) s = .next s := by
  show execWaitTimerExpiry p r.slot s = _
  rw [execWaitTimerExpiry, hr]
  exact congrArg Host.Outcome.next (if_neg h)

theorem MeshPort.expireWait_pendingFrame (q : MeshPort) {r : Request} (h : r.state = .pendingFrame) :
    q.expireWait r = q.refuse r .frameTimeout 0 := by rw [MeshPort.expireWait, h]

theorem MeshPort.expireWait_pendingCover (q : MeshPort) {r : Request} (h : r.state = .pendingCover) :
    q.expireWait r = q.modify r.slot fun r => r.makeReady true := by rw [MeshPort.expireWait, h]

theorem MeshPort.expireWait_other (q : MeshPort) {r : Request} (h : r.state = .ready ∨ r.state = .inEngine) :
    q.expireWait r = q := by
  rcases h with h | h <;> rw [MeshPort.expireWait, h]

theorem State.setPort_self (s : State) (p : Port) : s.setPort p (s.port p) = s := by cases p <;> rfl

/-- Settles O27: by the timer, then by what the request waits for. -/
theorem waitTimerRefusesOrEndsTheWait : Obligations.WaitTimerRefusesOrEndsTheWait := by
  intro s p r older younger q hslots hother
  have hr := MeshPort.request?_middle hslots hother
  refine ⟨fun x hx hpast => ⟨fun hframe => ?_, fun hcover => ?_⟩, fun h => ?_, fun x hx hlate => ?_⟩
  · rw [exec_waitTimer_reached hr (reached_of_some hx hpast), MeshPort.expireWait_pendingFrame _ hframe,
      ← filter_slot_middle hother, ← hslots]
    rfl
  · rw [exec_waitTimer_reached hr (reached_of_some hx hpast), MeshPort.expireWait_pendingCover _ hcover]
    have hmap := map_slot_middle (fun x => x.makeReady true) hother
    rw [← hslots] at hmap
    rw [MeshPort.modify, hmap]
    rfl
  · by_cases hreached : reached s.time r.waitTimer = true
    · have hstate : r.state = .ready ∨ r.state = .inEngine := by
        rcases h with h | h
        · rw [h] at hreached
          exact absurd hreached Bool.false_ne_true
        · exact h
      rw [exec_waitTimer_reached hr hreached, MeshPort.expireWait_other _ hstate, State.setPort_self]
    · exact exec_waitTimer_not_reached hr hreached
  · exact exec_waitTimer_not_reached hr (not_reached_of_some hx hlate)

/-! ### Words and refuse records -/

theorem MeshPort.placesUsed_eq (q : MeshPort) :
    q.placesUsed = q.replies.length + q.slots.length + if q.gathered = [] then 0 else 1 := by
  rw [MeshPort.placesUsed, MeshPort.reservations_eq, Nat.add_assoc]

theorem State.requestReady_iff (s : State) (p : Port) :
    s.requestReady p = true ↔ s.cp.initBusy = false ∧ ((s.port p).gathered ≠ [] ∨ (s.port p).placesUsed < 8) := by
  rw [State.requestReady, Bool.and_eq_true, Bool.not_eq_true', Bool.or_eq_true, Bool.not_eq_true',
    List.isEmpty_eq_false_iff, MeshPort.freePlace, decide_eq_true_iff]
  rfl

theorem exec_requestWord_taken {s : State} {p : Port} (hready : s.requestReady p = true)
    (hlength : (s.port p).gathered.length < 7) (w : Word) :
    exec (.requestWordTaken p w) s =
      .next (s.setPort p { s.port p with gathered := (s.port p).gathered ++ [w] }) :=
  congrArg Host.Outcome.next (if_pos (by rw [hready, decide_eq_true hlength]; rfl))

theorem exec_requestWord_kept {s : State} {p : Port} (hready : ¬ s.requestReady p = true) (w : Word) :
    exec (.requestWordTaken p w) s = .next s :=
  congrArg Host.Outcome.next (if_neg fun h => hready (Bool.and_eq_true_iff.1 h).1)

theorem exec_wordTaken (s : State) (p : Port) :
    exec (.wordTaken p) s = .next (s.setPort p { s.port p with fifo := (s.port p).fifo.drop 1 }) := rfl

theorem exec_refuseRecordMove_moves {s : State} {p : Port} {r : RefuseRecord} {rs : List RefuseRecord}
    (hreplies : (s.port p).replies = r :: rs) (h : s.mayMove p = true) :
    exec (.refuseRecordMove p) s =
      .next (s.setPort p { s.port p with replies := rs, fifo := (s.port p).fifo ++ r.toWords }) := by
  show execRefuseRecordMove p s = _
  rw [execRefuseRecordMove]
  dsimp only
  rw [hreplies]
  exact congrArg Host.Outcome.next (if_pos h)

theorem exec_refuseRecordMove_stays {s : State} {p : Port} (h : ¬ s.mayMove p = true) :
    exec (.refuseRecordMove p) s = .next s := by
  show execRefuseRecordMove p s = _
  rw [execRefuseRecordMove]
  dsimp only
  cases (s.port p).replies with
  | nil => rfl
  | cons r rs => exact congrArg Host.Outcome.next (if_neg h)

/-- Settles O28: each direction by the condition its move rests on. -/
theorem wordsAndRefuseRecordsMoveAsTheRoomAllows : Obligations.WordsAndRefuseRecordsMoveAsTheRoomAllows := by
  refine ⟨fun s p w => ⟨MeshPort.placesUsed_eq _, fun hbusy h => ?_, fun h => ?_⟩, fun s p =>
    ⟨fun w ws hfifo => ⟨?_, ?_⟩, fun hfifo => ⟨?_, ?_⟩, fun r rs hreplies => ⟨fun hmesh hroom => ?_, fun h => ?_⟩⟩⟩
  · refine exec_requestWord_taken ((s.requestReady_iff p).2 ⟨hbusy, ?_⟩) ?_ w
    · rcases h with ⟨-, hplace⟩ | ⟨hlo, -⟩
      · exact .inr hplace
      · exact .inl (List.ne_nil_of_length_pos hlo)
    · rcases h with ⟨hempty, -⟩ | ⟨-, hhi⟩
      · rw [hempty]
        decide
      · omega
  · refine exec_requestWord_kept (fun hready => ?_) w
    obtain ⟨hclear, hplace⟩ := (s.requestReady_iff p).1 hready
    rcases h with hbusy | ⟨hempty, hfull⟩
    · rw [hclear] at hbusy
      exact Bool.false_ne_true hbusy
    · rcases hplace with hsome | hfree
      · exact hsome hempty
      · omega
  · rw [State.meshData, hfifo]
    rfl
  · rw [exec_wordTaken, hfifo]
    rfl
  · rw [State.meshValid, hfifo]
    rfl
  · rw [exec_wordTaken, show (s.port p).fifo.drop 1 = (s.port p).fifo by rw [hfifo]; rfl]
    exact congrArg Host.Outcome.next (s.setPort_self p)
  · exact exec_refuseRecordMove_moves hreplies ((s.mayMove_iff p).2 ⟨hmesh, by simp [hreplies], hroom⟩)
  · refine exec_refuseRecordMove_stays fun hmove => ?_
    obtain ⟨hidle, -, hroom⟩ := (s.mayMove_iff p).1 hmove
    rcases h with hmesh | hfull
    · rw [hidle] at hmesh
      exact Bool.false_ne_true hmesh
    · omega

end Sys2Proof.Machine
end

section
/-! PROOFS. A request record judged at its arrival: accepted into the lowest free slot, or refused with the code of the
first check it fails (R122 to R129): O25, O26. -/

namespace Sys2Proof.Machine

/-! ### Window, grid and fill of a request (R4, R16, R124) -/

theorem gridCount_eq (extent : Half) (code : BitVec 2) :
    gridCount extent code = (extent.toNat + 2 ^ (4 + code.toNat) - 1) / 2 ^ (4 + code.toNat) + 1 := by
  rw [gridCount, ceilDiv, gridStep, pow_add]
  rfl

theorem windowFits_iff (f : RequestFields) (c : ConfigSet) :
    windowFits f c = true ↔
      f.width ≠ 0 ∧ f.height ≠ 0 ∧ f.x0.toNat + f.width.toNat ≤ c.width.toNat
        ∧ f.y0.toNat + f.height.toNat ≤ c.height.toNat := by
  rw [windowFits, Bool.and_eq_true, Bool.and_eq_true, Bool.and_eq_true, bne_iff_ne, bne_iff_ne, decide_eq_true_iff,
    decide_eq_true_iff, and_assoc, and_assoc]

theorem gridFits_iff (nc nr : Nat) : gridFits nc nr = true ↔ nc ≤ 257 ∧ nr ≤ 193 ∧ nc * nr ≤ 16384 := by
  rw [gridFits, Bool.and_eq_true, Bool.and_eq_true, decide_eq_true_iff, decide_eq_true_iff, decide_eq_true_iff,
    and_assoc]

theorem clampFill_eq (v : Word) : clampFill v = BitVec.ofInt 32 (max 524288 (min 2097152 v.toInt)) := by
  rw [clampFill, clampInt_eq (by decide)]

/-- The clamp changes a fill exactly where it lies outside the range. -/
theorem clampFill_eq_self_iff (v : Word) : clampFill v = v ↔ max 524288 (min 2097152 v.toInt) = v.toInt := by
  have hrange : (clampFill v).toInt = max 524288 (min 2097152 v.toInt) := by
    rw [clampFill_eq]
    exact BitVec.toInt_ofInt_eq_self (by decide) (by omega) (by omega)
  rw [← hrange, BitVec.toInt_inj]

/-- A request as it enters its slot (R16, R107, R131). -/
theorem newRequest_eq (s : State) (q : MeshPort) (k : Fin 4) (f : RequestFields) :
    let fixed := max 524288 (min 2097152 f.fixedFill.toInt)
    newRequest k f (expiry s.time (millis q.config.waitLimit.toNat)) =
      { slot := k
        fields := { f with
          exposure := BitVec.ofNat 32 (min 1000000 f.exposure.toNat)
          fixedFill := if f.fillMode = .fixed then BitVec.ofInt 32 fixed else f.fixedFill }
        fillClamped := f.fillMode == .fixed && decide (fixed ≠ f.fixedFill.toInt)
        nc := (f.width.toNat + 2 ^ (4 + f.stepCode.toNat) - 1) / 2 ^ (4 + f.stepCode.toNat) + 1
        nr := (f.height.toNat + 2 ^ (4 + f.stepCode.toNat) - 1) / 2 ^ (4 + f.stepCode.toNat) + 1
        strobe := none
        coverTime := none
        coverIncomplete := false
        waitTimer := some (s.time + BitVec.ofNat 32 (1000 * q.config.waitLimit.toNat))
        state := .pendingFrame } := by
  intro fixed
  have hclamps : f.fillClamps = (f.fillMode == .fixed && decide (fixed ≠ f.fixedFill.toInt)) := by
    rw [RequestFields.fillClamps]
    refine congrArg (_ && ·) (Bool.eq_iff_iff.2 ?_)
    rw [bne_iff_ne, decide_eq_true_iff, Ne, clampFill_eq_self_iff]
  have hfields : f.clamped = { f with
      exposure := BitVec.ofNat 32 (min 1000000 f.exposure.toNat)
      fixedFill := if f.fillMode = .fixed then BitVec.ofInt 32 fixed else f.fixedFill } := by
    rw [RequestFields.clamped, clampFill_eq]
    cases f.fillMode <;> rfl
  rw [newRequest, hclamps, hfields, RequestFields.nc, RequestFields.nr, gridCount_eq, gridCount_eq]
  rfl

/-! ### The frame lookup (R129) -/

theorem lookupFrame_newest {u : StrobeUnit} {f : RequestFields} {r : StrobeRecord} (h : f.latest = true)
    (hr : u.table.getLast? = some r) : lookupFrame u f = .resolved r := by
  rw [lookupFrame, if_pos h, hr]

theorem lookupFrame_none_newest {u : StrobeUnit} {f : RequestFields} (h : f.latest = true) (hr : u.table = []) :
    lookupFrame u f = .unknown := by
  rw [lookupFrame, if_pos h, hr]
  rfl

theorem lookupFrame_found {u : StrobeUnit} {f : RequestFields} {r : StrobeRecord} (h : f.latest = false)
    (hr : (u.table.find? fun x => x.frame == f.frame) = some r) : lookupFrame u f = .resolved r := by
  rw [lookupFrame, h, hr]
  rfl

theorem lookupFrame_absent {u : StrobeUnit} {f : RequestFields} (h : f.latest = false)
    (hr : ∀ r ∈ u.table, r.frame ≠ f.frame) :
    lookupFrame u f =
      if 1 ≤ (f.frame - u.counter).toNat ∧ (f.frame - u.counter).toNat ≤ 8 then .pendingFrame else .unknown := by
  rw [lookupFrame, h, List.find?_eq_none.2 fun r hm => by simpa using hr r hm]
  simp

theorem lookupFrame_ahead {u : StrobeUnit} {f : RequestFields} (h : f.latest = false)
    (hr : ∀ r ∈ u.table, r.frame ≠ f.frame) (hlo : 1 ≤ (f.frame - u.counter).toNat)
    (hhi : (f.frame - u.counter).toNat ≤ 8) : lookupFrame u f = .pendingFrame :=
  (lookupFrame_absent h hr).trans (if_pos ⟨hlo, hhi⟩)

theorem lookupFrame_far {u : StrobeUnit} {f : RequestFields} (h : f.latest = false)
    (hr : ∀ r ∈ u.table, r.frame ≠ f.frame)
    (hfar : (f.frame - u.counter).toNat = 0 ∨ 9 ≤ (f.frame - u.counter).toNat) : lookupFrame u f = .unknown :=
  (lookupFrame_absent h hr).trans (if_neg (by omega))

/-! ### The checks in order (R124) -/

theorem State.judge_eq (s : State) (p : Port) (f : RequestFields) :
    s.judge p f =
      if (s.port p).config.enabled = false then some .portDisabled
      else if (s.port p).config.mode ≠ .command then some .mode
      else if ¬ windowFits f s.config = true then some .badWindow
      else if ¬ gridFits f.nc f.nr = true then some .badGrid
      else if freeSlot (s.port p).slots = none then some .queueFull
      else if lookupFrame (s.tsu.get p) f = .unknown then some .frameUnknown
      else none :=
  if_congr (by simp) rfl (if_congr bne_iff_ne rfl (if_congr (by simp) rfl (if_congr (by simp) rfl
    (if_congr (by simp) rfl rfl))))

theorem exec_requestRecord {s : State} {p : Port} (hbusy : s.cp.initBusy = false)
    (hlength : (s.port p).gathered.length = 7) (w : Word) :
    exec (.requestRecord p w) s = .next (s.judgeRecord p (RequestFields.ofWords ((s.port p).gathered ++ [w]))) := by
  have hready := (s.requestReady_iff p).2 ⟨hbusy, .inl (MeshPort.gathered_ne_nil hlength)⟩
  exact congrArg Host.Outcome.next (if_pos (by rw [hready, hlength]; rfl))

theorem State.judgeRecord_refused {s : State} {p : Port} {f : RequestFields} {code : RefusalCode}
    (h : s.judge p f = some code) : s.judgeRecord p f = s.refuseRecord p f code := by
  rw [State.judgeRecord, h]

theorem State.judgeRecord_accepted {s : State} {p : Port} {f : RequestFields} {k : Fin 4} (h : s.judge p f = none)
    (hk : freeSlot (s.port p).slots = some k) : s.judgeRecord p f = s.acceptRecord p f k := by
  rw [State.judgeRecord, h, hk]

theorem State.acceptRecord_resolved {s : State} {p : Port} {f : RequestFields} {k : Fin 4} {r : StrobeRecord}
    (h : lookupFrame (s.tsu.get p) f = .resolved r) :
    s.acceptRecord p f k =
      s.setPort p { s.port p with
        gathered := []
        slots := (s.port p).slots
          ++ [resolveFrame s r (newRequest k f (expiry s.time (millis (s.port p).config.waitLimit.toNat)))] } := by
  rw [State.acceptRecord]
  simp only [h]

theorem State.acceptRecord_waiting {s : State} {p : Port} {f : RequestFields} {k : Fin 4}
    (h : lookupFrame (s.tsu.get p) f = .pendingFrame) :
    s.acceptRecord p f k =
      s.setPort p { s.port p with
        gathered := []
        slots := (s.port p).slots ++ [newRequest k f (expiry s.time (millis (s.port p).config.waitLimit.toNat))] } := by
  rw [State.acceptRecord]
  simp only [h]

theorem fillModeOf_eq (c : BitVec 2) :
    fillModeOf c = match c.toNat with
      | 0 => .profile
      | 2 => .fixed
      | _ => .unity := by
  revert c
  decide

/-- Settles O25: the layout of the record; then judged without a failing check, accepted by its frame. -/
theorem requestRecordIsAccepted : Obligations.RequestRecordIsAccepted := by
  refine ⟨fun w0 w1 w2 w3 w4 w5 w6 w7 => ?_, ?_⟩
  · rw [RequestFields.ofWords, fillModeOf_eq]
    rfl
  intro s p w k q u f step nc nr hbusy hlength henabled hmode hwidth hheight hx hy hnc hnr hgrid hfree hlowest
    fixed request accepts
  have hnc' : f.nc = nc := gridCount_eq _ _
  have hnr' : f.nr = nr := gridCount_eq _ _
  have hk : freeSlot (s.port p).slots = some k := freeSlot_some.2 ⟨hfree, hlowest⟩
  have hrequest : newRequest k f (expiry s.time (millis q.config.waitLimit.toNat)) = request := newRequest_eq s q k f
  have hjudge : lookupFrame (s.tsu.get p) f ≠ .unknown → s.judge p f = none := fun hknown => by
    rw [State.judge_eq, if_neg (by rw [henabled]; decide), if_neg (not_not.2 hmode),
      if_neg (not_not.2 ((windowFits_iff f s.config).2 ⟨hwidth, hheight, hx, hy⟩)),
      if_neg (not_not.2 ((gridFits_iff _ _).2 (by rw [hnc', hnr']; exact ⟨hnc, hnr, hgrid⟩))),
      if_neg (by rw [hk]; exact Option.some_ne_none k), if_neg hknown]
  have hresolved : ∀ r, lookupFrame (s.tsu.get p) f = .resolved r → accepts (resolveFrame s r request) := fun r hr => by
    have hnone := hjudge (by rw [hr]; exact FrameLookup.noConfusion)
    rw [← hrequest]
    exact (exec_requestRecord hbusy hlength w).trans
      (congrArg _ ((State.judgeRecord_accepted hnone hk).trans (State.acceptRecord_resolved hr)))
  refine ⟨fun r hlatest hr => hresolved r (lookupFrame_newest hlatest hr), fun r hlatest hr =>
    hresolved r (lookupFrame_found hlatest hr), fun hlatest habsent hlo hhi => ?_⟩
  have hahead := lookupFrame_ahead (u := s.tsu.get p) hlatest habsent hlo hhi
  have hnone := hjudge (by rw [hahead]; exact FrameLookup.noConfusion)
  show accepts request
  rw [← hrequest]
  exact (exec_requestRecord hbusy hlength w).trans
    (congrArg _ ((State.judgeRecord_accepted hnone hk).trans (State.acceptRecord_waiting hahead)))

/-- Settles O26: the codes, the frame of a refuse record, and the first check of the chain that fails. -/
theorem requestRecordIsRefusedByTheFirstFailingCheck : Obligations.RequestRecordIsRefusedByTheFirstFailingCheck := by
  refine ⟨rfl, fun r => ⟨fun c hc => ?_, fun hnone hlatest => ?_, fun hnone hlatest => ?_⟩, ?_⟩
  · rw [Request.refuseFrame, hc]
  · rw [Request.refuseFrame, hnone]
    exact if_pos hlatest
  · rw [Request.refuseFrame, hnone, hlatest]
    rfl
  intro s p w q u f step nc nr disabled mode window grid full unknown refused hbusy hlength
  have hnc : f.nc = nc := gridCount_eq _ _
  have hnr : f.nr = nr := gridCount_eq _ _
  have hrefused : ∀ code, s.judge p f = some code → refused code := fun code h =>
    (exec_requestRecord hbusy hlength w).trans (congrArg _ (State.judgeRecord_refused h))
  have hwindow : ¬ window → windowFits f s.config = true := fun h => by
    simp only [window, not_or, Nat.not_lt] at h
    exact (windowFits_iff f s.config).2 h
  have hgrid : ¬ grid → gridFits f.nc f.nr = true := fun h => by
    simp only [grid, not_or, Nat.not_lt] at h
    rw [hnc, hnr]
    exact (gridFits_iff nc nr).2 h
  have hfull : ¬ full → ¬ freeSlot (s.port p).slots = none := fun h hnone => h (freeSlot_none.1 hnone)
  refine ⟨fun h1 => ?_, fun h1 h2 => ?_, fun h1 h2 h3 => ?_, fun h1 h2 h3 h4 => ?_, fun h1 h2 h3 h4 h5 => ?_,
    fun h1 h2 h3 h4 h5 h6 => ?_⟩ <;> refine hrefused _ ?_ <;> rw [State.judge_eq]
  · exact if_pos h1
  · rw [if_neg h1]
    exact if_pos h2
  · rw [if_neg h1, if_neg h2]
    refine if_pos fun hfits => ?_
    obtain ⟨hwidth, hheight, hx, hy⟩ := (windowFits_iff f s.config).1 hfits
    rcases h3 with h | h | h | h
    · exact hwidth h
    · exact hheight h
    · omega
    · omega
  · rw [if_neg h1, if_neg h2, if_neg (not_not.2 (hwindow h3))]
    refine if_pos fun hfits => ?_
    rw [hnc, hnr, gridFits_iff] at hfits
    obtain ⟨hcols, hrows, hnodes⟩ := hfits
    rcases h4 with h | h | h <;> omega
  · rw [if_neg h1, if_neg h2, if_neg (not_not.2 (hwindow h3)), if_neg (not_not.2 (hgrid h4))]
    exact if_pos (freeSlot_none.2 h5)
  · rw [if_neg h1, if_neg h2, if_neg (not_not.2 (hwindow h3)), if_neg (not_not.2 (hgrid h4)), if_neg (hfull h5)]
    refine if_pos ?_
    rcases h6 with ⟨hlatest, hempty⟩ | ⟨hlatest, habsent, hfar⟩
    · exact lookupFrame_none_newest hlatest hempty
    · exact lookupFrame_far hlatest habsent hfar

end Sys2Proof.Machine
end
